-- ==== Sys2Proof/Word.lean ====
section
/-! DEFINITION. The word types of the block: bytes, bus addresses, exact rationals and binary64 data. -/

namespace Sys2Proof

/-- One byte: a register write, a register read, a sample byte (rule R62). -/
abbrev Byte := BitVec 8

/-- A register offset, 0x00 to 0x1F (rule R60 (a)). -/
abbrev Offset := BitVec 5

/-- A 16-bit address of the external memory bus (rule R60 (b)). -/
abbrev Addr := BitVec 16

/-- Exact rationals in lowest terms with a positive denominator (rule R13): cycle counts, timer
periods and timer positions. -/
abbrev Q := Rat

/-- One IEEE 754 binary64 datum, held as its 64-bit interchange encoding (rule R14). Its arithmetic is in
Machine/Float.lean; a structure of its own, so that no integer operation can be applied to it. -/
structure F64 where
  bits : BitVec 64
  deriving DecidableEq, Repr

end Sys2Proof
end

