-- ==== Sys2Proof/Config.lean ====
section
/-! DEFINITION. The configuration record of rule R10 as plain data (the constraints of rule R11 on it are in
WellFormed.lean), and the free values: what the spec lets be any byte, or leaves to IEEE 754. -/

namespace Sys2Proof

/-- `TIMER_LOW_PERIOD_POLICY` (rules R10, R121): what a period below the minimum does. -/
inductive LowPeriodPolicy where
  | clamp
  | disable
  deriving DecidableEq, Repr

/-- The sweep's negation convention (rules R27, R171). -/
inductive SweepConvention where
  | ones
  | twos
  deriving DecidableEq, Repr

/-- A configuration parameter that rule R10 types as a function of a register value, as plain data: either the
shape of the defaults (`base + scale * x`) or an explicit table of values, so that every function of a
register value has a `ParamMap`. -/
inductive ParamMap where
  | affine (base scale : Nat)
  | table (entries : List Nat)
  deriving DecidableEq, Repr

/-- The configuration record of rule R10, one field per parameter. It is fixed when a block is constructed and
no operation writes it (rules R21, R382). `TRIANGLE_RAMP` is fixed by rule R104 and stands in
Machine/Params.lean; `OPEN_BUS_READ` is the free value `Config.openBusRead`. -/
structure Config where
  /-- `SAMPLE_RATE_HZ` -/
  sampleRateHz : Nat
  /-- `CPU_CLOCK_HZ` -/
  cpuClockHz : Nat
  /-- `FRAME_TOTAL_PERIOD`, CPU cycles -/
  frameTotalPeriod : Q
  /-- `TIMER_MIN_PERIOD`, CPU cycles -/
  timerMinPeriod : Nat
  /-- `TIMER_LOW_PERIOD_POLICY` -/
  lowPeriodPolicy : LowPeriodPolicy
  /-- `LENGTH_TABLE`, 32 entries -/
  lengthTable : List Nat
  /-- `NOISE_PERIOD_TABLE`, 16 entries, CPU cycles -/
  noisePeriodTable : List Nat
  /-- `DMC_RATE_TABLE`, 16 entries, CPU cycles -/
  dmcRateTable : List Nat
  /-- `DUTY_TABLE`, 4 rows of 8 bits -/
  dutyTable : List (List Nat)
  /-- `PULSE_PERIOD(t)` -/
  pulsePeriod : ParamMap
  /-- `TRIANGLE_PERIOD(t)` -/
  trianglePeriod : ParamMap
  /-- `SWEEP_NEGATE_P1` -/
  sweepNegateP1 : SweepConvention
  /-- `SWEEP_NEGATE_P2` -/
  sweepNegateP2 : SweepConvention
  /-- `PULSE_PHASE_RESET_ON_HI` -/
  pulsePhaseResetOnHi : Bool
  /-- `DMC_SAMPLE_ADDRESS(a)` -/
  dmcSampleAddress : ParamMap
  /-- `DMC_SAMPLE_LENGTH(l)` -/
  dmcSampleLength : ParamMap
  /-- `LPF_CUTOFF_HZ` -/
  lpfCutoffHz : F64
  /-- the value of `LPF_ALPHA(LPF_CUTOFF_HZ, SAMPLE_RATE_HZ)`, computed once at construction (rule R294) -/
  lpfAlpha : F64
  /-- `HPF_COEFF` -/
  hpfCoeff : F64
  deriving DecidableEq, Repr

/-- The byte the external bus answers at an address of which the state lists no content: any byte, a new one
each time (rule R63). The first argument counts such answers. FREE VALUE. -/
opaque Config.busByte : Nat → Addr → Byte

/-- `OPEN_BUS_READ`, the byte a read of an offset other than 0x15 returns (rules R73, R336): any byte, a new one
each time. The first argument counts such reads. FREE VALUE. -/
opaque Config.openBusRead : Nat → Offset → Byte

/-- The sign and payload of the NaN that an invalid binary64 operation on two operands delivers, which IEEE 754
leaves to the implementation. No run reaches it (rule R362 (c)). FREE VALUE. -/
opaque Config.nanBits : F64 → F64 → BitVec 64

end Sys2Proof
end

