-- ==== Sys2Proof/Machine/Float.lean ====
section
/-! DEFINITION. IEEE 754 binary64 with round-to-nearest-even (rule R14): every operation computes the exact
rational result of its operands and rounds it once. -/

namespace Sys2Proof

/-- The sign bit. -/
def F64.neg (x : F64) : Bool := x.bits.getLsbD 63

/-- The biased exponent field, bits 62:52. -/
def F64.expField (x : F64) : Nat := (x.bits.extractLsb' 52 11).toNat

/-- The fraction field, bits 51:0. -/
def F64.fracField (x : F64) : Nat := (x.bits.extractLsb' 0 52).toNat

def F64.isFinite (x : F64) : Bool := x.expField != 0x7FF

def F64.isNaN (x : F64) : Bool := x.expField == 0x7FF && x.fracField != 0

def F64.isInf (x : F64) : Bool := x.expField == 0x7FF && x.fracField == 0

/-- `+0` or `-0` -/
def F64.isZero (x : F64) : Bool := x.expField == 0 && x.fracField == 0

/-- `m * 2^e` as a rational. -/
def scaleByPow2 (m : Nat) (e : Int) : Q :=
  if 0 ≤ e then ((m * 2 ^ e.toNat : Nat) : Q) else mkRat m (2 ^ (-e).toNat)

/-- The absolute value of a finite datum: subnormal data have exponent -1074 and no hidden bit. -/
def F64.magnitude (x : F64) : Q :=
  if x.expField = 0 then scaleByPow2 x.fracField (-1074)
  else scaleByPow2 (2 ^ 52 + x.fracField) ((x.expField : Int) - 1075)

/-- The rational a finite datum stands for. -/
def F64.toRat (x : F64) : Q := if x.neg then -x.magnitude else x.magnitude

/-- The datum with the given sign and the given 63 low bits. -/
def F64.pack (neg : Bool) (mag : Nat) : F64 := ⟨BitVec.ofBool neg ++ BitVec.ofNat 63 mag⟩

/-- The 63 low bits of an infinity. -/
def F64.infMagnitude : Nat := 0x7FF * 2 ^ 52

def F64.infinity (neg : Bool) : F64 := F64.pack neg F64.infMagnitude

def F64.zero (neg : Bool) : F64 := F64.pack neg 0

/-- A quiet NaN whose sign and payload are the free value of the two operands. -/
def F64.nan (x y : F64) : F64 := ⟨0x7FF8000000000000#64 ||| (Config.nanBits x y &&& 0x8007FFFFFFFFFFFF#64)⟩

/-- The natural number nearest to `n / d`, a tie going to the even one. -/
def roundHalfEven (n d : Nat) : Nat :=
  if d < 2 * (n % d) then n / d + 1
  else if 2 * (n % d) = d then n / d + n / d % 2
  else n / d

/-- The largest `e` with `2^e <= n / d`, for positive `n` and `d`. -/
def floorLog2 (n d : Nat) : Int :=
  let e : Int := (n.log2 : Int) - (d.log2 : Int)
  if n * 2 ^ (-e).toNat < d * 2 ^ e.toNat then e - 1 else e

/-- The 63 low bits of the binary64 datum nearest to `n / d`, for positive `n` and `d`: the significand is rounded
at the exponent `max(floorLog2, -1022)`; a carry out of it moves into the exponent field, and a result past
the largest finite datum is the infinity. -/
def F64.roundMagnitude (n d : Nat) : Nat :=
  let e : Int := max (floorLog2 n d) (-1022)
  let ulp : Int := e - 52
  min ((e + 1022).toNat * 2 ^ 52 + roundHalfEven (n * 2 ^ (-ulp).toNat) (d * 2 ^ ulp.toNat)) F64.infMagnitude

/-- The binary64 datum nearest to `q` (round to nearest, ties to even); `zeroNeg` is the sign of an exact zero. -/
def F64.round (zeroNeg : Bool) (q : Q) : F64 :=
  if q = 0 then F64.zero zeroNeg
  else F64.pack (decide (q < 0)) (F64.roundMagnitude q.num.natAbs q.den)

/-- A natural number converted to binary64 (exact below 2^53; rule R14). -/
def F64.ofNat (n : Nat) : F64 := F64.round false (n : Q)

/-- The decimal literal `digits / 10^places`: the nearest binary64 value (rule R14). -/
def F64.decimal (digits places : Nat) : F64 := F64.round false (mkRat digits (10 ^ places))

def F64.negate (x : F64) : F64 := ⟨x.bits ^^^ 0x8000000000000000#64⟩

def F64.add (x y : F64) : F64 :=
  if x.isNaN || y.isNaN then F64.nan x y
  else if x.isInf then (if y.isInf && x.neg != y.neg then F64.nan x y else x)
  else if y.isInf then y
  else F64.round (x.neg && y.neg) (x.toRat + y.toRat)

def F64.sub (x y : F64) : F64 :=
  if y.isNaN then F64.nan x y else F64.add x y.negate

def F64.mul (x y : F64) : F64 :=
  if x.isNaN || y.isNaN then F64.nan x y
  else if x.isInf || y.isInf then
    (if x.isZero || y.isZero then F64.nan x y else F64.infinity (x.neg != y.neg))
  else F64.round (x.neg != y.neg) (x.toRat * y.toRat)

def F64.div (x y : F64) : F64 :=
  if x.isNaN || y.isNaN then F64.nan x y
  else if x.isInf then (if y.isInf then F64.nan x y else F64.infinity (x.neg != y.neg))
  else if y.isInf then F64.zero (x.neg != y.neg)
  else if y.isZero then (if x.isZero then F64.nan x y else F64.infinity (x.neg != y.neg))
  else F64.round (x.neg != y.neg) (x.toRat / y.toRat)

end Sys2Proof
end

