-- ==== Sys2Proof/Machine/Params.lean ====
section
/-! DEFINITION. What the configuration record means: the defaults of rule R10 and of rules R98 to R104, the derived
quantities (CPS, the period policy), and the functions of a register value. -/

namespace Sys2Proof

/-- The value of a parameter function at `x`. -/
def ParamMap.apply (m : ParamMap) (x : Nat) : Nat :=
  match m with
  | .affine base scale => base + scale * x
  | .table entries => (entries[x]?).getD 0

/-- `CPS`, the CPU cycles of one output sample period (rules R10, R128). -/
def Config.cps (c : Config) : Q := (c.cpuClockHz : Q) / (c.sampleRateHz : Q)

/-- The period policy `clampP` (rule R121). -/
def Config.clampP (c : Config) (p : Q) : Q :=
  match c.lowPeriodPolicy with
  | .clamp => if p < (c.timerMinPeriod : Q) then (c.timerMinPeriod : Q) else p
  | .disable => p

/-- `DMC_SAMPLE_ADDRESS(a)` as a 16-bit address (rule R99). -/
def Config.sampleAddress (c : Config) (a : Byte) : Addr := BitVec.ofNat 16 (c.dmcSampleAddress.apply a.toNat)

/-- `DMC_SAMPLE_LENGTH(l)` (rule R99). -/
def Config.sampleLength (c : Config) (l : Byte) : Nat := c.dmcSampleLength.apply l.toNat

/-- Rule R100. -/
def defaultLengthTable : List Nat :=
  [10, 254, 20, 2, 40, 4, 80, 6, 160, 8, 60, 10, 14, 12, 26, 14,
   12, 16, 24, 18, 48, 20, 96, 22, 192, 24, 72, 26, 16, 28, 32, 30]

/-- Rule R101. -/
def defaultNoisePeriodTable : List Nat :=
  [4, 8, 16, 32, 64, 96, 128, 160, 202, 254, 380, 508, 762, 1016, 2034, 4068]

/-- Rule R102. -/
def defaultDmcRateTable : List Nat :=
  [428, 380, 340, 320, 286, 254, 226, 214, 190, 160, 142, 128, 106, 84, 72, 54]

/-- Row 0 of `DUTY_TABLE`, fixed by the source (rule R103). -/
def dutyRow0 : List Nat := [0, 1, 0, 0, 0, 0, 0, 0]

/-- Rule R103. -/
def defaultDutyTable : List (List Nat) :=
  [dutyRow0, [0, 1, 1, 0, 0, 0, 0, 0], [0, 1, 1, 1, 1, 0, 0, 0], [1, 0, 0, 1, 1, 1, 1, 1]]

/-- `TRIANGLE_RAMP` (rule R104). -/
def triangleRamp : List Nat :=
  [15, 14, 13, 12, 11, 10, 9, 8, 7, 6, 5, 4, 3, 2, 1, 0,
   0, 1, 2, 3, 4, 5, 6, 7, 8, 9, 10, 11, 12, 13, 14, 15]

/-- The binary64 value nearest to pi (rule R295). -/
def F64.pi : F64 := ⟨0x400921FB54442D18#64⟩

/-- The default `LPF_ALPHA(fc, fs)` (rule R295). -/
def onePoleAlpha (fc fs : F64) : F64 :=
  let w := ((((F64.ofNat 2).mul F64.pi).mul fc).div fs)
  w.div (w.add (F64.ofNat 1))

/-- The configuration with the defaults of rule R10 for everything but the two clock rates and the frame period. -/
def Config.withRates (cpuClockHz sampleRateHz : Nat) (frameTotalPeriod : Q) : Config where
  sampleRateHz := sampleRateHz
  cpuClockHz := cpuClockHz
  frameTotalPeriod := frameTotalPeriod
  timerMinPeriod := 1
  lowPeriodPolicy := .clamp
  lengthTable := defaultLengthTable
  noisePeriodTable := defaultNoisePeriodTable
  dmcRateTable := defaultDmcRateTable
  dutyTable := defaultDutyTable
  pulsePeriod := .affine 2 2
  trianglePeriod := .affine 1 1
  sweepNegateP1 := .ones
  sweepNegateP2 := .twos
  pulsePhaseResetOnHi := false
  dmcSampleAddress := .affine 0xC000 64
  dmcSampleLength := .affine 1 16
  lpfCutoffHz := F64.ofNat 14000
  lpfAlpha := onePoleAlpha (F64.ofNat 14000) (F64.ofNat sampleRateHz)
  hpfCoeff := F64.decimal 995 3

/-- The configuration the machine is reset with: every default of rule R10. DESIGN CHOICE (log entry 2): rule R10 gives
`SAMPLE_RATE_HZ` no default and 44100 is taken. -/
def Config.default : Config := Config.withRates 1789773 44100 ((1789773 : Q) / 60)

end Sys2Proof
end

