-- ==== Sys2Proof/Syntax.lean ====
section
/-! DEFINITION. The host operations: `Instr`, one constructor per row of spec/opcode_table.json, and the assembly
syntax of rules R109 and R110. -/

namespace Sys2Proof

/-- One host operation (rules R3, R80). A write carries its data byte whole, because the shadow byte keeps its unused
bits too (rule R106); `adv` carries its operand, a natural number with no bound (rule R81). -/
inductive Instr where
  -- pulse 1
  | wrP1Ctrl (data : Byte)
  | wrP1Sweep (data : Byte)
  | wrP1Tlo (data : Byte)
  | wrP1Thi (data : Byte)
  -- pulse 2
  | wrP2Ctrl (data : Byte)
  | wrP2Sweep (data : Byte)
  | wrP2Tlo (data : Byte)
  | wrP2Thi (data : Byte)
  -- triangle
  | wrTriLinear (data : Byte)
  | wrTriUnused (data : Byte)
  | wrTriTlo (data : Byte)
  | wrTriThi (data : Byte)
  -- noise
  | wrNoiseCtrl (data : Byte)
  | wrNoiseUnused (data : Byte)
  | wrNoisePeriod (data : Byte)
  | wrNoiseLen (data : Byte)
  -- DMC
  | wrDmcCtrl (data : Byte)
  | wrDmcLevel (data : Byte)
  | wrDmcAddr (data : Byte)
  | wrDmcLen (data : Byte)
  -- status and frame control
  | wrStatus (data : Byte)
  | wrFrame (data : Byte)
  -- unmapped writes
  | wrUnmapped14 (data : Byte)
  | wrUnmapped16 (data : Byte)
  | wrUnmapped18 (data : Byte)
  | wrUnmapped19 (data : Byte)
  | wrUnmapped1A (data : Byte)
  | wrUnmapped1B (data : Byte)
  | wrUnmapped1C (data : Byte)
  | wrUnmapped1D (data : Byte)
  | wrUnmapped1E (data : Byte)
  | wrUnmapped1F (data : Byte)
  -- reads
  | rdStatus
  | rdOpen00
  | rdOpen01
  | rdOpen02
  | rdOpen03
  | rdOpen04
  | rdOpen05
  | rdOpen06
  | rdOpen07
  | rdOpen08
  | rdOpen09
  | rdOpen0A
  | rdOpen0B
  | rdOpen0C
  | rdOpen0D
  | rdOpen0E
  | rdOpen0F
  | rdOpen10
  | rdOpen11
  | rdOpen12
  | rdOpen13
  | rdOpen14
  | rdOpen16
  | rdOpen17
  | rdOpen18
  | rdOpen19
  | rdOpen1A
  | rdOpen1B
  | rdOpen1C
  | rdOpen1D
  | rdOpen1E
  | rdOpen1F
  -- time
  | adv (n : Nat)
  deriving DecidableEq, Repr

/-- A host operation in its binary form: the 16-bit transaction word and, beside it, the operand that `ADVANCE` takes
(rule R80). -/
structure Transaction where
  word : BitVec 16
  operand : Nat
  deriving DecidableEq, Repr

/-- One line of the assembly syntax (rules R109, R110), with its operands as the numbers written. -/
inductive AsmLine where
  | rd (off : Nat)
  | wr (off data : Nat)
  | adv (n : Nat)
  | nop
  | tone (base t length : Nat)
  deriving DecidableEq, Repr

end Sys2Proof
end

