-- ==== Sys2Proof/WellFormed.lean ====
section
/-! DEFINITION. What is well formed: an instruction, a line of assembly (rules R109, R110) and a configuration
(rule R11, with the sizes and ranges that rules R10, R31 and R100 to R103 give its parameters), as a proposition and as the
check that construction makes. -/

namespace Sys2Proof

/-- Every term of `Instr` spells an operation, so the check refuses none: a data byte has eight bits by its type (rule
R62), no field value of a valid word is illegal (rule R108) and `ADVANCE` takes any natural number (rule R81). -/
def Instr.wellFormed (_ : Instr) : Bool := true

/-- The operand ranges of rules R109 and R110. -/
def AsmLine.wellFormed (a : AsmLine) : Bool :=
  match a with
  | .rd off => off < 32
  | .wr off data => off < 32 && data < 256
  | .adv _ => true
  | .nop => true
  | .tone base t length => (base == 0x00 || base == 0x04 || base == 0x08) && t < 2048 && length < 32

/-- A parameter function has a value at each of `size` register values. -/
def ParamMap.covers (m : ParamMap) (size : Nat) : Bool :=
  match m with
  | .affine _ _ => true
  | .table entries => entries.length == size

/-- A parameter function on `size` register values has a value at each of them, and `ok` holds of each value. -/
abbrev ParamMap.On (m : ParamMap) (size : Nat) (ok : Nat → Prop) : Prop :=
  m.covers size = true ∧ ∀ x, x < size → ok (m.apply x)

/-- The constraints of rule R11, and the parameters' own sizes and ranges: a length of a DMC sample is 1 to 4081
(rule R31), a sample address is a 16-bit address (rule R10), row 0 of the duty table is the source's (rule R103), the
cutoff is positive (rule R10; log entry 13). -/
structure Config.WellFormed (c : Config) : Prop where
  sampleRate : 0 < c.sampleRateHz
  cpuClock : 0 < c.cpuClockHz
  frameTotal : 0 < c.frameTotalPeriod
  timerMin : 0 < c.timerMinPeriod
  lengthSize : c.lengthTable.length = 32
  lengthRange : ∀ v ∈ c.lengthTable, v ≤ 255
  noiseSize : c.noisePeriodTable.length = 16
  noisePositive : ∀ v ∈ c.noisePeriodTable, 0 < v
  dmcRateSize : c.dmcRateTable.length = 16
  dmcRatePositive : ∀ v ∈ c.dmcRateTable, 0 < v
  dutySize : c.dutyTable.length = 4
  dutyRows : ∀ r ∈ c.dutyTable, r.length = 8 ∧ ∀ b ∈ r, b ≤ 1
  dutyFirst : c.dutyTable[0]? = some dutyRow0
  pulsePeriodMap : c.pulsePeriod.On 2048 fun _ => True
  trianglePeriodMap : c.trianglePeriod.On 2048 fun _ => True
  sampleAddressMap : c.dmcSampleAddress.On 256 fun a => a < 65536
  sampleLengthMap : c.dmcSampleLength.On 256 fun l => 1 ≤ l ∧ l ≤ 4081
  hpfRange : c.hpfCoeff.isFinite = true ∧ 0 < c.hpfCoeff.toRat ∧ c.hpfCoeff.toRat < 1
  lpfRange : c.lpfAlpha.isFinite = true ∧ 0 < c.lpfAlpha.toRat ∧ c.lpfAlpha.toRat ≤ 1
  cutoffRange : c.lpfCutoffHz.isFinite = true ∧ 0 < c.lpfCutoffHz.toRat

/-- The check of a configuration at construction (rule R11): whether `Config.WellFormed` holds, evaluated. -/
def Config.check (c : Config) : Bool :=
  decide (0 < c.sampleRateHz) && decide (0 < c.cpuClockHz) && decide (0 < c.frameTotalPeriod) &&
    decide (0 < c.timerMinPeriod) &&
  (c.lengthTable.length == 32 && c.lengthTable.all fun v => decide (v ≤ 255)) &&
  (c.noisePeriodTable.length == 16 && c.noisePeriodTable.all fun v => decide (0 < v)) &&
  (c.dmcRateTable.length == 16 && c.dmcRateTable.all fun v => decide (0 < v)) &&
  (c.dutyTable.length == 4 && (c.dutyTable.all fun r => r.length == 8 && r.all fun b => decide (b ≤ 1)) &&
    c.dutyTable[0]? == some dutyRow0) &&
  (c.pulsePeriod.covers 2048 && c.trianglePeriod.covers 2048) &&
  (c.dmcSampleAddress.covers 256 &&
    (List.range 256).all fun a => decide (c.dmcSampleAddress.apply a < 65536)) &&
  (c.dmcSampleLength.covers 256 && (List.range 256).all fun l =>
    decide (1 ≤ c.dmcSampleLength.apply l) && decide (c.dmcSampleLength.apply l ≤ 4081)) &&
  (c.hpfCoeff.isFinite && decide (0 < c.hpfCoeff.toRat) && decide (c.hpfCoeff.toRat < 1)) &&
  (c.lpfAlpha.isFinite && decide (0 < c.lpfAlpha.toRat) && decide (c.lpfAlpha.toRat ≤ 1)) &&
  (c.lpfCutoffHz.isFinite && decide (0 < c.lpfCutoffHz.toRat))

/-- A configuration that has passed the check. A block holds one of these, so that a configuration that breaks rule R11
has no block, and no operation a meaning under it. -/
structure AcceptedConfig where
  record : Config
  valid : record.check = true
  deriving DecidableEq, Repr

/-- The default configuration passes the check. -/
theorem Config.default_accepted : Config.default.check = true := by decide +kernel

end Sys2Proof
end

