-- ==== Sys2Proof/Decode.lean ====
section
/-! DEFINITION. The transaction word (rules R80 to R82): a decoder that is total on transactions and refuses by name,
then the encoder, the assembler (rules R109, R110) and the opcode table as match and mask rows. -/

namespace Sys2Proof

/-- Why a transaction word spells no operation (rules R82, R337). -/
inductive InvalidWord where
  /-- `kind` is 11 -/
  | reservedKind
  /-- bit 13 is 1 -/
  | bit13Set
  /-- a READ whose `data` field is not 0 -/
  | readDataNonzero
  /-- an ADVANCE whose `off` or `data` field is not 0 -/
  | advanceFieldNonzero
  deriving DecidableEq, Repr

/-- `kind`, bits 15:14 (rule R80). -/
def kindField (w : BitVec 16) : BitVec 2 := w.extractLsb' 14 2

/-- `z`, bit 13. -/
def zField (w : BitVec 16) : Bool := w.getLsbD 13

/-- `off`, bits 12:8. -/
def offField (w : BitVec 16) : Offset := w.extractLsb' 8 5

/-- `data`, bits 7:0. -/
def dataField (w : BitVec 16) : Byte := w.extractLsb' 0 8

/-- The WRITE row of an offset (rule R111). -/
def decodeWrite (off : Offset) (data : Byte) : Instr :=
  match off with
  | 0x00#5 => .wrP1Ctrl data
  | 0x01#5 => .wrP1Sweep data
  | 0x02#5 => .wrP1Tlo data
  | 0x03#5 => .wrP1Thi data
  | 0x04#5 => .wrP2Ctrl data
  | 0x05#5 => .wrP2Sweep data
  | 0x06#5 => .wrP2Tlo data
  | 0x07#5 => .wrP2Thi data
  | 0x08#5 => .wrTriLinear data
  | 0x09#5 => .wrTriUnused data
  | 0x0A#5 => .wrTriTlo data
  | 0x0B#5 => .wrTriThi data
  | 0x0C#5 => .wrNoiseCtrl data
  | 0x0D#5 => .wrNoiseUnused data
  | 0x0E#5 => .wrNoisePeriod data
  | 0x0F#5 => .wrNoiseLen data
  | 0x10#5 => .wrDmcCtrl data
  | 0x11#5 => .wrDmcLevel data
  | 0x12#5 => .wrDmcAddr data
  | 0x13#5 => .wrDmcLen data
  | 0x14#5 => .wrUnmapped14 data
  | 0x15#5 => .wrStatus data
  | 0x16#5 => .wrUnmapped16 data
  | 0x17#5 => .wrFrame data
  | 0x18#5 => .wrUnmapped18 data
  | 0x19#5 => .wrUnmapped19 data
  | 0x1A#5 => .wrUnmapped1A data
  | 0x1B#5 => .wrUnmapped1B data
  | 0x1C#5 => .wrUnmapped1C data
  | 0x1D#5 => .wrUnmapped1D data
  | 0x1E#5 => .wrUnmapped1E data
  | _ => .wrUnmapped1F data  -- 0x1F, the one offset left

/-- The READ row of an offset (rule R111). -/
def decodeRead (off : Offset) : Instr :=
  match off with
  | 0x00#5 => .rdOpen00
  | 0x01#5 => .rdOpen01
  | 0x02#5 => .rdOpen02
  | 0x03#5 => .rdOpen03
  | 0x04#5 => .rdOpen04
  | 0x05#5 => .rdOpen05
  | 0x06#5 => .rdOpen06
  | 0x07#5 => .rdOpen07
  | 0x08#5 => .rdOpen08
  | 0x09#5 => .rdOpen09
  | 0x0A#5 => .rdOpen0A
  | 0x0B#5 => .rdOpen0B
  | 0x0C#5 => .rdOpen0C
  | 0x0D#5 => .rdOpen0D
  | 0x0E#5 => .rdOpen0E
  | 0x0F#5 => .rdOpen0F
  | 0x10#5 => .rdOpen10
  | 0x11#5 => .rdOpen11
  | 0x12#5 => .rdOpen12
  | 0x13#5 => .rdOpen13
  | 0x14#5 => .rdOpen14
  | 0x15#5 => .rdStatus
  | 0x16#5 => .rdOpen16
  | 0x17#5 => .rdOpen17
  | 0x18#5 => .rdOpen18
  | 0x19#5 => .rdOpen19
  | 0x1A#5 => .rdOpen1A
  | 0x1B#5 => .rdOpen1B
  | 0x1C#5 => .rdOpen1C
  | 0x1D#5 => .rdOpen1D
  | 0x1E#5 => .rdOpen1E
  | _ => .rdOpen1F  -- 0x1F, the one offset left

/-- The operation a transaction spells, or why it spells none (rules R80, R82). Only ADVANCE reads the operand. -/
def decode (t : Transaction) : Except InvalidWord Instr :=
  if zField t.word then .error .bit13Set
  else match kindField t.word with
    | 0b00#2 =>
      if dataField t.word = 0#8 then .ok (decodeRead (offField t.word)) else .error .readDataNonzero
    | 0b01#2 => .ok (decodeWrite (offField t.word) (dataField t.word))
    | 0b10#2 =>
      if offField t.word = 0#5 ∧ dataField t.word = 0#8 then .ok (.adv t.operand)
      else .error .advanceFieldNonzero
    | 0b11#2 => .error .reservedKind

/-- A transaction word from its fields (rule R80). -/
def packWord (kind : BitVec 2) (off : Offset) (data : Byte) : BitVec 16 := kind ++ 0#1 ++ off ++ data

def encodeRead (off : Offset) : Transaction := ⟨packWord 0b00#2 off 0#8, 0⟩

def encodeWrite (off : Offset) (data : Byte) : Transaction := ⟨packWord 0b01#2 off data, 0⟩

def encodeAdvance (n : Nat) : Transaction := ⟨packWord 0b10#2 0#5 0#8, n⟩

/-- The transaction of a host operation, from the rows of spec/opcode_table.json. -/
def encode (i : Instr) : Transaction :=
  match i with
  | .wrP1Ctrl data => encodeWrite 0x00 data
  | .wrP1Sweep data => encodeWrite 0x01 data
  | .wrP1Tlo data => encodeWrite 0x02 data
  | .wrP1Thi data => encodeWrite 0x03 data
  | .wrP2Ctrl data => encodeWrite 0x04 data
  | .wrP2Sweep data => encodeWrite 0x05 data
  | .wrP2Tlo data => encodeWrite 0x06 data
  | .wrP2Thi data => encodeWrite 0x07 data
  | .wrTriLinear data => encodeWrite 0x08 data
  | .wrTriUnused data => encodeWrite 0x09 data
  | .wrTriTlo data => encodeWrite 0x0A data
  | .wrTriThi data => encodeWrite 0x0B data
  | .wrNoiseCtrl data => encodeWrite 0x0C data
  | .wrNoiseUnused data => encodeWrite 0x0D data
  | .wrNoisePeriod data => encodeWrite 0x0E data
  | .wrNoiseLen data => encodeWrite 0x0F data
  | .wrDmcCtrl data => encodeWrite 0x10 data
  | .wrDmcLevel data => encodeWrite 0x11 data
  | .wrDmcAddr data => encodeWrite 0x12 data
  | .wrDmcLen data => encodeWrite 0x13 data
  | .wrStatus data => encodeWrite 0x15 data
  | .wrFrame data => encodeWrite 0x17 data
  | .wrUnmapped14 data => encodeWrite 0x14 data
  | .wrUnmapped16 data => encodeWrite 0x16 data
  | .wrUnmapped18 data => encodeWrite 0x18 data
  | .wrUnmapped19 data => encodeWrite 0x19 data
  | .wrUnmapped1A data => encodeWrite 0x1A data
  | .wrUnmapped1B data => encodeWrite 0x1B data
  | .wrUnmapped1C data => encodeWrite 0x1C data
  | .wrUnmapped1D data => encodeWrite 0x1D data
  | .wrUnmapped1E data => encodeWrite 0x1E data
  | .wrUnmapped1F data => encodeWrite 0x1F data
  | .rdStatus => encodeRead 0x15
  | .rdOpen00 => encodeRead 0x00
  | .rdOpen01 => encodeRead 0x01
  | .rdOpen02 => encodeRead 0x02
  | .rdOpen03 => encodeRead 0x03
  | .rdOpen04 => encodeRead 0x04
  | .rdOpen05 => encodeRead 0x05
  | .rdOpen06 => encodeRead 0x06
  | .rdOpen07 => encodeRead 0x07
  | .rdOpen08 => encodeRead 0x08
  | .rdOpen09 => encodeRead 0x09
  | .rdOpen0A => encodeRead 0x0A
  | .rdOpen0B => encodeRead 0x0B
  | .rdOpen0C => encodeRead 0x0C
  | .rdOpen0D => encodeRead 0x0D
  | .rdOpen0E => encodeRead 0x0E
  | .rdOpen0F => encodeRead 0x0F
  | .rdOpen10 => encodeRead 0x10
  | .rdOpen11 => encodeRead 0x11
  | .rdOpen12 => encodeRead 0x12
  | .rdOpen13 => encodeRead 0x13
  | .rdOpen14 => encodeRead 0x14
  | .rdOpen16 => encodeRead 0x16
  | .rdOpen17 => encodeRead 0x17
  | .rdOpen18 => encodeRead 0x18
  | .rdOpen19 => encodeRead 0x19
  | .rdOpen1A => encodeRead 0x1A
  | .rdOpen1B => encodeRead 0x1B
  | .rdOpen1C => encodeRead 0x1C
  | .rdOpen1D => encodeRead 0x1D
  | .rdOpen1E => encodeRead 0x1E
  | .rdOpen1F => encodeRead 0x1F
  | .adv n => encodeAdvance n

/-- A transaction as one number: bits 15:0 the word, the operand above them (log entry 9). -/
def transactionOfNat (w : Nat) : Transaction := ⟨BitVec.ofNat 16 w, w / 65536⟩

/-- The operation the decoder reads from a row's `nbits` bits, every bit above them 0. -/
def decodeTableWord (nbits w : Nat) : Option Instr :=
  (decode (transactionOfNat (w % 2 ^ nbits))).toOption

/-- The transactions a well-formed line of assembly stands for (rules R109, R110); none for an ill-formed one. -/
def AsmLine.assemble (a : AsmLine) : Option (List Transaction) :=
  if a.wellFormed then
    some (match a with
      | .rd off => [⟨BitVec.ofNat 16 (off * 256), 0⟩]
      | .wr off data => [⟨BitVec.ofNat 16 (0x4000 + off * 256 + data), 0⟩]
      | .adv n => [⟨0x8000#16, n⟩]
      | .nop => [⟨0x8000#16, 0⟩]
      | .tone base t length =>
        [⟨BitVec.ofNat 16 (0x4000 + (base + 2) * 256 + t % 256), 0⟩,
         ⟨BitVec.ofNat 16 (0x4000 + (base + 3) * 256 + (length * 8 + t / 256)), 0⟩])
  else none

/-- The `match` and `mask` of an operation's row of spec/opcode_table.json. -/
structure OpcodeRow where
  pattern : BitVec 16
  mask : BitVec 16
  deriving DecidableEq, Repr

/-- A word belongs to a row if its masked bits are the row's pattern. -/
def OpcodeRow.matches (r : OpcodeRow) (w : BitVec 16) : Bool := w &&& r.mask == r.pattern

/-- The row of an operation, as spec/opcode_table.json lists it. -/
def Instr.row (i : Instr) : OpcodeRow :=
  match i with
  | .wrP1Ctrl _ => ⟨0x4000, 0xFF00⟩
  | .wrP1Sweep _ => ⟨0x4100, 0xFF00⟩
  | .wrP1Tlo _ => ⟨0x4200, 0xFF00⟩
  | .wrP1Thi _ => ⟨0x4300, 0xFF00⟩
  | .wrP2Ctrl _ => ⟨0x4400, 0xFF00⟩
  | .wrP2Sweep _ => ⟨0x4500, 0xFF00⟩
  | .wrP2Tlo _ => ⟨0x4600, 0xFF00⟩
  | .wrP2Thi _ => ⟨0x4700, 0xFF00⟩
  | .wrTriLinear _ => ⟨0x4800, 0xFF00⟩
  | .wrTriUnused _ => ⟨0x4900, 0xFF00⟩
  | .wrTriTlo _ => ⟨0x4A00, 0xFF00⟩
  | .wrTriThi _ => ⟨0x4B00, 0xFF00⟩
  | .wrNoiseCtrl _ => ⟨0x4C00, 0xFF00⟩
  | .wrNoiseUnused _ => ⟨0x4D00, 0xFF00⟩
  | .wrNoisePeriod _ => ⟨0x4E00, 0xFF00⟩
  | .wrNoiseLen _ => ⟨0x4F00, 0xFF00⟩
  | .wrDmcCtrl _ => ⟨0x5000, 0xFF00⟩
  | .wrDmcLevel _ => ⟨0x5100, 0xFF00⟩
  | .wrDmcAddr _ => ⟨0x5200, 0xFF00⟩
  | .wrDmcLen _ => ⟨0x5300, 0xFF00⟩
  | .wrStatus _ => ⟨0x5500, 0xFF00⟩
  | .wrFrame _ => ⟨0x5700, 0xFF00⟩
  | .wrUnmapped14 _ => ⟨0x5400, 0xFF00⟩
  | .wrUnmapped16 _ => ⟨0x5600, 0xFF00⟩
  | .wrUnmapped18 _ => ⟨0x5800, 0xFF00⟩
  | .wrUnmapped19 _ => ⟨0x5900, 0xFF00⟩
  | .wrUnmapped1A _ => ⟨0x5A00, 0xFF00⟩
  | .wrUnmapped1B _ => ⟨0x5B00, 0xFF00⟩
  | .wrUnmapped1C _ => ⟨0x5C00, 0xFF00⟩
  | .wrUnmapped1D _ => ⟨0x5D00, 0xFF00⟩
  | .wrUnmapped1E _ => ⟨0x5E00, 0xFF00⟩
  | .wrUnmapped1F _ => ⟨0x5F00, 0xFF00⟩
  | .rdStatus => ⟨0x1500, 0xFFFF⟩
  | .rdOpen00 => ⟨0x0000, 0xFFFF⟩
  | .rdOpen01 => ⟨0x0100, 0xFFFF⟩
  | .rdOpen02 => ⟨0x0200, 0xFFFF⟩
  | .rdOpen03 => ⟨0x0300, 0xFFFF⟩
  | .rdOpen04 => ⟨0x0400, 0xFFFF⟩
  | .rdOpen05 => ⟨0x0500, 0xFFFF⟩
  | .rdOpen06 => ⟨0x0600, 0xFFFF⟩
  | .rdOpen07 => ⟨0x0700, 0xFFFF⟩
  | .rdOpen08 => ⟨0x0800, 0xFFFF⟩
  | .rdOpen09 => ⟨0x0900, 0xFFFF⟩
  | .rdOpen0A => ⟨0x0A00, 0xFFFF⟩
  | .rdOpen0B => ⟨0x0B00, 0xFFFF⟩
  | .rdOpen0C => ⟨0x0C00, 0xFFFF⟩
  | .rdOpen0D => ⟨0x0D00, 0xFFFF⟩
  | .rdOpen0E => ⟨0x0E00, 0xFFFF⟩
  | .rdOpen0F => ⟨0x0F00, 0xFFFF⟩
  | .rdOpen10 => ⟨0x1000, 0xFFFF⟩
  | .rdOpen11 => ⟨0x1100, 0xFFFF⟩
  | .rdOpen12 => ⟨0x1200, 0xFFFF⟩
  | .rdOpen13 => ⟨0x1300, 0xFFFF⟩
  | .rdOpen14 => ⟨0x1400, 0xFFFF⟩
  | .rdOpen16 => ⟨0x1600, 0xFFFF⟩
  | .rdOpen17 => ⟨0x1700, 0xFFFF⟩
  | .rdOpen18 => ⟨0x1800, 0xFFFF⟩
  | .rdOpen19 => ⟨0x1900, 0xFFFF⟩
  | .rdOpen1A => ⟨0x1A00, 0xFFFF⟩
  | .rdOpen1B => ⟨0x1B00, 0xFFFF⟩
  | .rdOpen1C => ⟨0x1C00, 0xFFFF⟩
  | .rdOpen1D => ⟨0x1D00, 0xFFFF⟩
  | .rdOpen1E => ⟨0x1E00, 0xFFFF⟩
  | .rdOpen1F => ⟨0x1F00, 0xFFFF⟩
  | .adv _ => ⟨0x8000, 0xFFFF⟩

end Sys2Proof
end

