-- ==== Sys2Proof/Machine/State.lean ====
section
/-! DEFINITION. The state of the block (rules R20 to R34) beside what the model records of its surroundings, the faults
and refusals, and the state after construction (rule R380). -/

namespace Sys2Proof.Machine

/-- Rule R23. -/
structure Timer where
  /-- CPU cycles per tick -/
  period : Q
  /-- CPU cycles left before the next tick -/
  position : Q
  deriving DecidableEq, Repr

/-- Rule R140. -/
inductive FrameMode where
  | fourStep
  | fiveStep
  deriving DecidableEq, Repr

/-- One entry of the frame step tables: which ticks it gives (rule R105). -/
structure FrameTick where
  quarter : Bool
  half : Bool
  deriving DecidableEq, Repr

/-- Rule R24. -/
structure FrameSequencer where
  mode : FrameMode
  step : Nat
  pending5 : Bool
  timer : Timer
  deriving DecidableEq, Repr

/-- Rule R25. -/
structure LengthCounter where
  enabled : Bool
  remaining : Nat
  configuredLength : Nat
  deriving DecidableEq, Repr

/-- Rule R26. -/
structure Envelope where
  start : Bool
  divider : Nat
  decayLevel : Nat
  loop : Bool
  constant : Bool
  param : Nat
  deriving DecidableEq, Repr

/-- Rule R27. -/
structure Sweep where
  counter : Nat
  dividerPeriod : Nat
  shift : Nat
  negate : Bool
  enabled : Bool
  reload : Bool
  convention : SweepConvention
  deriving DecidableEq, Repr

/-- The four shadow bytes of a channel (rule R22). -/
structure Shadow where
  sh0 : Byte
  sh1 : Byte
  sh2 : Byte
  sh3 : Byte
  deriving DecidableEq, Repr

/-- Rule R28. -/
structure PulseChannel where
  sh : Shadow
  timer : Timer
  duty : Nat
  step : Nat
  halt : Bool
  env : Envelope
  sweep : Sweep
  len : LengthCounter
  deriving DecidableEq, Repr

/-- Rule R29. -/
structure TriangleChannel where
  sh : Shadow
  timer : Timer
  step : Nat
  linear : Nat
  linLength : Nat
  linReload : Bool
  control : Bool
  len : LengthCounter
  deriving DecidableEq, Repr

/-- Rule R30. -/
structure NoiseChannel where
  sh : Shadow
  timer : Timer
  lfsr : BitVec 15
  /-- `true` is short (tap bit 6), `false` is long (tap bit 1) -/
  mode : Bool
  halt : Bool
  env : Envelope
  len : LengthCounter
  deriving DecidableEq, Repr

/-- Rule R31. -/
structure DmcChannel where
  sh : Shadow
  timer : Timer
  sampleAddress : Addr
  sampleLength : Nat
  curAddress : Addr
  bytesRemaining : Nat
  /-- `none` is the spec's own 'no byte buffered' -/
  buffer : Option Byte
  shiftReg : Byte
  bitsLeft : Nat
  silence : Bool
  level : Nat
  loop : Bool
  irqEnabled : Bool
  irqLatched : Bool
  deriving DecidableEq, Repr

/-- Rule R32. -/
structure FilterState where
  lp : F64
  dc : F64
  deriving DecidableEq, Repr

/-- The state of the block: the record of rule R21. -/
structure Apu where
  sampleClock : Timer
  fs : FrameSequencer
  p1 : PulseChannel
  p2 : PulseChannel
  tri : TriangleChannel
  noise : NoiseChannel
  dmc : DmcChannel
  filt : FilterState
  deriving DecidableEq, Repr

/-- The external memory bus as the DMC sees it (rules R60 (b), R63): `mem` lists the bytes of the host's memory that
are known, the byte at any other address is a free value; `answers` counts those free answers (the model's own)
and `log` records the address of every read, oldest first (the model's own). -/
structure Bus where
  mem : List Host.Cell
  answers : Nat
  log : List Addr
  deriving DecidableEq, Repr

/-- The machine: the configuration it was constructed with (no step changes it, and it has passed the check of rule
R11), the block, the bus, and the host's side of the interface. -/
structure State where
  /-- the configuration record of rule R10 with the fact that rule R11 admits it (log entry 1) -/
  config : AcceptedConfig
  /-- the block's own state, all of rule R21 -/
  apu : Apu
  /-- the external memory bus (rule R63) -/
  bus : Bus
  /-- the transactions the host issues next, the next one first (rule R70; log entry 3) -/
  pending : List Transaction
  /-- the bytes returned by the host's reads, oldest first (rules R331, R336; log entry 4) -/
  reads : List Byte
  /-- the sample stream: every sample pushed to the sink, oldest first (rules R298, R299) -/
  samples : List F64
  /-- how many open-bus reads have drawn a byte (the model's own; log entry 5) -/
  openBusDraws : Nat
  deriving DecidableEq, Repr

/-- The configuration record, an argument of every rule. -/
abbrev State.cfg (s : State) : Config := s.config.record

/-- The fixed tables of rule R360, for the record a fault makes. -/
inductive TableName where
  | dutyTable
  | dutyRow
  | triangleRamp
  | lengthTable
  | noisePeriodTable
  | dmcRateTable
  | frameSteps (mode : FrameMode)
  deriving DecidableEq, Repr

/-- The block's faults (rule R360). -/
inductive Fault where
  /-- `Fatal(IndexOutOfRange)` with the table and the index: raised by every table read (`tableGet`) and by
  `FrameSequencer.advance`. SAFE: the spec's own fault, which no run from reset reaches (rule R361). -/
  | indexOutOfRange (table : TableName) (index : Nat)
  deriving DecidableEq, Repr

/-- Why the model gives a transaction no step. -/
inductive Refusal where
  /-- an instruction without a meaning, named as spec/opcode_table.json names it; raised by `exec` alone, and by no arm
  of this model. SAFE. -/
  | notModelled (mnemonic : String)
  /-- a transaction word that spells no operation (rules R82, R337); raised by `step`. SAFE: the spec refuses it. -/
  | invalidWord (why : InvalidWord)
  /-- a configuration that breaks rule R11; raised by `State.construct`, so that no block with such a configuration
  exists. SAFE: the spec refuses it and "the model gives it no meaning". -/
  | invalidConfig
  deriving DecidableEq, Repr

/-- A Timer at the start of a period: the position is the period (rule R23). -/
def Timer.ofPeriod (p : Q) : Timer := ⟨p, p⟩

/-- A channel's Timer as constructed, its period through the policy (rules R44, R120). -/
def Timer.construct (c : Config) (p : Q) : Timer := Timer.ofPeriod (c.clampP p)

def Shadow.zero : Shadow := ⟨0x00, 0x00, 0x00, 0x00⟩

def LengthCounter.construct : LengthCounter := ⟨false, 0, 0⟩

def Envelope.construct : Envelope := ⟨false, 0, 0, false, false, 0⟩

def Sweep.construct (k : SweepConvention) : Sweep := ⟨0, 0, 0, false, false, false, k⟩

def PulseChannel.construct (c : Config) (k : SweepConvention) : PulseChannel where
  sh := Shadow.zero
  timer := Timer.construct c (c.pulsePeriod.apply 0 : Nat)
  duty := 0
  step := 0
  halt := false
  env := Envelope.construct
  sweep := Sweep.construct k
  len := LengthCounter.construct

def TriangleChannel.construct (c : Config) : TriangleChannel where
  sh := Shadow.zero
  timer := Timer.construct c (c.trianglePeriod.apply 0 : Nat)
  step := 0
  linear := 0
  linLength := 0
  linReload := false
  control := false
  len := LengthCounter.construct

def NoiseChannel.construct (c : Config) : NoiseChannel where
  sh := Shadow.zero
  timer := Timer.construct c ((c.noisePeriodTable[0]?).getD 0 : Nat)
  lfsr := 0x0001
  mode := false
  halt := false
  env := Envelope.construct
  len := LengthCounter.construct

def DmcChannel.construct (c : Config) : DmcChannel where
  sh := Shadow.zero
  timer := Timer.construct c ((c.dmcRateTable[0]?).getD 0 : Nat)
  sampleAddress := c.sampleAddress 0x00
  sampleLength := c.sampleLength 0x00
  curAddress := c.sampleAddress 0x00
  bytesRemaining := 0
  buffer := none
  shiftReg := 0x00
  bitsLeft := 8
  silence := true
  level := 0
  loop := false
  irqEnabled := false
  irqLatched := false

/-- Rules R24, R44, R380: the period as given, not through the policy (log entry 10). -/
def FrameSequencer.construct (c : Config) : FrameSequencer where
  mode := .fourStep
  step := 0
  pending5 := false
  timer := Timer.ofPeriod (c.frameTotalPeriod / 4)

/-- The sample clock's period and position are CPS itself (rules R44, R128, R380; log entry 10). -/
def Apu.construct (c : Config) : Apu where
  sampleClock := Timer.ofPeriod c.cps
  fs := FrameSequencer.construct c
  p1 := PulseChannel.construct c c.sweepNegateP1
  p2 := PulseChannel.construct c c.sweepNegateP2
  tri := TriangleChannel.construct c
  noise := NoiseChannel.construct c
  dmc := DmcChannel.construct c
  filt := ⟨F64.zero false, F64.zero false⟩

/-- A block newly constructed with an admitted configuration: reset is construction (rules R380, R381). -/
def State.ofConfig (c : AcceptedConfig) : State where
  config := c
  apu := Apu.construct c.record
  bus := ⟨[], 0, []⟩
  pending := []
  reads := []
  samples := []
  openBusDraws := 0

/-- Construction with the configuration the host fixes (rules R380, R382): one that breaks rule R11 is refused. -/
def State.construct (c : Config) : Host.Outcome State Fault Refusal :=
  if h : c.check = true then .next (State.ofConfig ⟨c, h⟩) else .refused .invalidConfig

/-- The machine right after reset, under the default configuration (rules R10, R380). -/
def State.reset : State := State.ofConfig ⟨Config.default, Config.default_accepted⟩

end Sys2Proof.Machine
end

