-- ==== Sys2Proof/Machine/Ops.lean ====
section
/-! DEFINITION. The operations every unit shares: table reads and their fault, the outcome of an operation, the bus
memory, the queue of transactions, the units' setters, and the block's one exception signal: the interrupt latch and
its acknowledge (the block takes no trap, rules R368, R369). -/

namespace Sys2Proof.Machine

/-- `Table[i]` (rules R15, R360): the entry, or the fault that names the table and the index. -/
def tableGet {α : Type} (name : TableName) (table : List α) (i : Nat) : Except Fault α :=
  match table[i]? with
  | some v => .ok v
  | none => .error (.indexOutOfRange name i)

/-- A fault abandons every effect of its operation (rule R367) and ends the run (rule R360). -/
def toOutcome (r : Except Fault State) : Host.Outcome State Fault Refusal :=
  match r with
  | .ok s => .next s
  | .error e => .fault e

/-- The listed byte at an address. -/
def memLookup (m : List Host.Cell) (a : Nat) : Option Byte :=
  match m with
  | [] => none
  | (k, b) :: rest => if k = a then some b else memLookup rest a

/-- List the byte `b` at address `a`, keeping the addresses rising. -/
def memWrite (m : List Host.Cell) (a : Nat) (b : Byte) : List Host.Cell :=
  match m with
  | [] => [(a, b)]
  | (k, v) :: rest =>
    if a < k then (a, b) :: (k, v) :: rest
    else if a = k then (a, b) :: rest
    else (k, v) :: memWrite rest a b

/-- Every address is at least `low` and below 2^16, and the addresses strictly rise. -/
def memRising (low : Nat) (m : List Host.Cell) : Bool :=
  match m with
  | [] => true
  | (k, _) :: rest => decide (low ≤ k) && decide (k < 65536) && memRising (k + 1) rest

/-- The canonical form of the bus memory. An unlisted address has no fixed content (its byte is a free value), so no
entry is redundant. -/
def Memory.wf (m : List Host.Cell) : Bool := memRising 0 m

/-- The byte the bus answers at `a` in this state. -/
def Bus.byteAt (b : Bus) (a : Addr) : Byte :=
  match memLookup b.mem a.toNat with
  | some v => v
  | none => Config.busByte b.answers a

/-- `MemRead(a, 1)` (rule R63): it never faults, and leaves the memory as it is. -/
def Bus.read (b : Bus) (a : Addr) : Byte × Bus :=
  match memLookup b.mem a.toNat with
  | some v => (v, { b with log := b.log ++ [a] })
  | none => (Config.busByte b.answers a, { b with answers := b.answers + 1, log := b.log ++ [a] })

/-- A store the host makes to its own memory between two operations (rules R71, R75): an input of the model, no step
of the block. -/
def State.hostStore (s : State) (a : Addr) (b : Byte) : State :=
  { s with bus := { s.bus with mem := memWrite s.bus.mem a.toNat b } }

/-- The interrupt is raised: the flag is set, and nothing else changes (rules R364, R368). -/
def DmcChannel.raiseIrq (d : DmcChannel) : DmcChannel := { d with irqLatched := true }

/-- The acknowledge, the only counterpart of a return from the interrupt (rules R365, R369). -/
def DmcChannel.clearIrq (d : DmcChannel) : DmcChannel := { d with irqLatched := false }

def State.setP1 (s : State) (p : PulseChannel) : State := { s with apu := { s.apu with p1 := p } }

def State.setP2 (s : State) (p : PulseChannel) : State := { s with apu := { s.apu with p2 := p } }

def State.setTri (s : State) (t : TriangleChannel) : State := { s with apu := { s.apu with tri := t } }

def State.setNoise (s : State) (n : NoiseChannel) : State := { s with apu := { s.apu with noise := n } }

def State.setDmc (s : State) (d : DmcChannel) : State := { s with apu := { s.apu with dmc := d } }

def State.setFs (s : State) (f : FrameSequencer) : State := { s with apu := { s.apu with fs := f } }

def State.setSampleClock (s : State) (t : Timer) : State := { s with apu := { s.apu with sampleClock := t } }

/-- A READ returns `b` to the host. -/
def State.returnByte (s : State) (b : Byte) : State := { s with reads := s.reads ++ [b] }

/-- The host issues one more transaction, before those it has queued. -/
def State.issue (s : State) (t : Transaction) : State := { s with pending := t :: s.pending }

/-- The transaction at the head of the queue is taken. -/
def State.dropPending (s : State) : State := { s with pending := s.pending.tail }

end Sys2Proof.Machine
end

