-- ==== Sys2Proof/Machine/Timer.lean ====
section
/-! DEFINITION. The timer (rules R120 to R126). -/

namespace Sys2Proof.Machine

/-- Under `disable`, a timer with a period below the minimum never ticks (rule R121). -/
def Timer.inert (c : Config) (t : Timer) : Bool :=
  c.lowPeriodPolicy == .disable && decide (t.period < (c.timerMinPeriod : Q))

/-- `set_period(T, p)`: the position is kept (rule R121). -/
def Timer.setPeriod (c : Config) (t : Timer) (p : Q) : Timer := { t with period := c.clampP p }

/-- The number of ticks for a position that has fallen to `p <= 0`: the least `k >= 1` with `p + k * period > 0`
(rule R122). -/
def Timer.ticksFor (t : Timer) (p : Q) : Nat := (⌊(0 - p) / t.period⌋).toNat + 1

/-- `Timer.advance(T, n)`: the timer after `n` cycles and the number of its ticks (rule R122). -/
def Timer.advance (c : Config) (t : Timer) (n : Q) : Timer × Nat :=
  if t.inert c then (t, 0)
  else
    let p := t.position - n
    if 0 < p then ({ t with position := p }, 0)
    else
      let k := t.ticksFor p
      ({ t with position := p + (k : Q) * t.period }, k)

/-- The source's own form of the subtraction loop, `while position <= 0 { position += period; ticks += 1 }`, cut off
after `fuel` turns (rules R122, R123). No rule of the model calls it. -/
def timerLoop (period : Q) (fuel : Nat) (position : Q) (ticks : Nat) : Q × Nat :=
  match fuel with
  | 0 => (position, ticks)
  | fuel + 1 =>
    if position ≤ 0 then timerLoop period fuel (position + period) (ticks + 1) else (position, ticks)

end Sys2Proof.Machine
end

