-- ==== Sys2Proof/Machine/FrameSequencer.lean ====
section
/-! DEFINITION. The frame sequencer (rules R140 to R148) and how a channel applies its ticks (rule R130). -/

namespace Sys2Proof.Machine

/-- `N(mode)` (rule R140). -/
def FrameMode.steps (m : FrameMode) : Nat :=
  match m with
  | .fourStep => 4
  | .fiveStep => 5

/-- The frame step tables (rule R105). -/
def FrameMode.table (m : FrameMode) : List FrameTick :=
  match m with
  | .fourStep => [⟨true, true⟩, ⟨true, false⟩, ⟨true, true⟩, ⟨true, false⟩]
  | .fiveStep => [⟨true, true⟩, ⟨true, false⟩, ⟨true, true⟩, ⟨false, false⟩, ⟨true, true⟩]

/-- `k` ticks from step `step`: the entries in order, and the step after them (rules R142, R143). -/
def frameTicks (m : FrameMode) (k step : Nat) : Except Fault (List FrameTick × Nat) :=
  match k with
  | 0 => .ok ([], step)
  | k + 1 => do
    let tick ← tableGet (.frameSteps m) m.table step
    let (rest, last) ← frameTicks m k ((step + 1) % m.steps)
    .ok (tick :: rest, last)

/-- `FrameSequencer.advance(fs, c)` (rules R143, R144); a step outside the mode's range is the fault of rule R360
(log entry 11). -/
def FrameSequencer.advance (c : Config) (fs : FrameSequencer) (cycles : Q) :
    Except Fault (FrameSequencer × List FrameTick) :=
  if fs.step < fs.mode.steps then do
    let (timer, k) := fs.timer.advance c cycles
    let (ticks, step) ← frameTicks fs.mode k fs.step
    let fs' : FrameSequencer := { fs with timer := timer, step := step, pending5 := false }
    .ok (fs', if fs.pending5 then [⟨true, true⟩] else ticks)
  else .error (.indexOutOfRange (.frameSteps fs.mode) fs.step)

/-- `FrameSequencer.set_mode(fs, m)`: every call is a switch, and the Timer keeps its position (rule R145). -/
def FrameSequencer.setMode (c : Config) (fs : FrameSequencer) (m : FrameMode) : FrameSequencer where
  mode := m
  step := 0
  timer := fs.timer.setPeriod c (c.frameTotalPeriod / (m.steps : Q))
  pending5 := m == .fiveStep

/-- The frame work of one channel in one sample step: the ticks in list order, quarter before half (rule R130). -/
def applyFrames {α : Type} (onQuarter onHalf : α → α) (ticks : List FrameTick) (ch : α) : α :=
  match ticks with
  | [] => ch
  | tick :: rest =>
    let ch := if tick.quarter then onQuarter ch else ch
    let ch := if tick.half then onHalf ch else ch
    applyFrames onQuarter onHalf rest ch

end Sys2Proof.Machine
end

