-- ==== Sys2Proof/Machine/Flags.lean ====
section
/-! DEFINITION. The Boolean conditions the rules compute from the state: gates, mute, the status byte and the IRQ
line (the block has no condition codes, rule R33). -/

namespace Sys2Proof.Machine

/-- `LengthCounter.has_remaining` (rule R183). -/
def LengthCounter.hasRemaining (l : LengthCounter) : Bool := decide (0 < l.remaining)

/-- `LengthCounter.gate(len, halt)` (rule R184). -/
def LengthCounter.gate (l : LengthCounter) (halt : Bool) : Bool := l.remaining != 0 || halt

/-- The sweep's `cur`: the Timer's current period, an integer number of CPU cycles (rule R171; log entry 12). -/
def Timer.cur (t : Timer) : Nat := ⌊t.period⌋.toNat

/-- `target(sw, cur)`, a signed integer (rule R171). -/
def Sweep.target (sw : Sweep) (cur : Nat) : Int :=
  let delta := cur >>> sw.shift
  if sw.negate then
    match sw.convention with
    | .ones => (cur : Int) - (delta : Int) - 1
    | .twos => (cur : Int) - (delta : Int)
  else (cur : Int) + (delta : Int)

/-- `mute(sw, cur)`, whether or not the sweep is enabled (rule R172). -/
def Sweep.mute (sw : Sweep) (cur : Nat) : Bool := decide (cur < 16) || decide (0xFFE < sw.target cur)

/-- Both counters of the triangle are above 0 (rule R223). -/
def TriangleChannel.running (t : TriangleChannel) : Bool :=
  decide (0 < t.linear) && decide (0 < t.len.remaining)

/-- The DMC's 'has remaining output' (rule R274). -/
def DmcChannel.hasRemaining (d : DmcChannel) : Bool := decide (0 < d.bytesRemaining)

/-- The status byte a read of 0x15 returns (rules R95, R331). -/
def Apu.statusByte (a : Apu) : Byte :=
  0#3 ++ BitVec.ofBool a.dmc.hasRemaining ++ BitVec.ofBool a.noise.len.hasRemaining
    ++ BitVec.ofBool a.tri.len.hasRemaining ++ BitVec.ofBool a.p2.len.hasRemaining
    ++ BitVec.ofBool a.p1.len.hasRemaining

/-- The level of the IRQ line, which the host may read between any two operations (rules R338, R366). -/
def State.irqLine (s : State) : Bool := s.apu.dmc.irqLatched

end Sys2Proof.Machine
end

