-- ==== Sys2Proof/Machine/Modulation.lean ====
section
/-! DEFINITION. Envelope (rules R160 to R164), sweep (rules R170 to R175) and length counter (rules R180 to R184). -/

namespace Sys2Proof.Machine

/-- `Envelope.restart` (rule R160). -/
def Envelope.restart (e : Envelope) : Envelope := { e with start := true }

/-- `Envelope.configure` (rule R161). -/
def Envelope.configure (e : Envelope) (loop constant : Bool) (param : Nat) : Envelope :=
  { e with loop := loop, constant := constant, param := param }

/-- `Envelope.advance` (rule R162). -/
def Envelope.advance (e : Envelope) : Envelope :=
  if e.start then { e with start := false, divider := e.param, decayLevel := 15 }
  else if e.divider = 0 then
    if 0 < e.decayLevel then { e with divider := e.param, decayLevel := e.decayLevel - 1 }
    else if e.loop then { e with divider := e.param, decayLevel := 15 }
    else { e with divider := e.param }
  else { e with divider := e.divider - 1 }

/-- `Envelope.level` (rule R163). -/
def Envelope.level (e : Envelope) : Nat := if e.constant then e.param else e.decayLevel

/-- The level of the inert envelope (rule R164). -/
def inertEnvelopeLevel : Nat := 1

/-- `Sweep.configure` (rule R170). -/
def Sweep.configure (sw : Sweep) (enabled : Bool) (period : Nat) (negate : Bool) (shift : Nat) : Sweep :=
  { sw with enabled := enabled, dividerPeriod := period, negate := negate, shift := shift, reload := true }

/-- The divider fires and writes a new period back (rule R173). -/
def Sweep.writesBack (sw : Sweep) (timer : Timer) : Bool :=
  !sw.reload && decide (sw.counter = 0) && sw.enabled && !sw.mute timer.cur && decide (sw.shift ≠ 0)

/-- `Sweep.advance`: the sweep's own state (rule R173). -/
def Sweep.advance (sw : Sweep) : Sweep :=
  if sw.reload then { sw with counter := sw.dividerPeriod, reload := false }
  else if sw.counter = 0 then { sw with counter := sw.dividerPeriod }
  else { sw with counter := sw.counter - 1 }

/-- `Sweep.advance`: the Timer it owns (rules R173, R174). -/
def Sweep.advanceTimer (c : Config) (sw : Sweep) (timer : Timer) : Timer :=
  if sw.writesBack timer then timer.setPeriod c ((sw.target timer.cur : Int) : Q) else timer

/-- `LengthCounter.set_enabled` (rule R180). -/
def LengthCounter.setEnabled (l : LengthCounter) (e : Bool) : LengthCounter :=
  if e != l.enabled then ⟨e, 0, 0⟩ else l

/-- `LengthCounter.set_configured` (rule R181). -/
def LengthCounter.setConfigured (l : LengthCounter) (v : Nat) : LengthCounter :=
  if l.enabled then { l with configuredLength := v, remaining := v } else l

/-- `LengthCounter.clock` (rule R182). -/
def LengthCounter.clock (l : LengthCounter) (halt : Bool) : LengthCounter :=
  if !halt && decide (0 < l.remaining) then { l with remaining := l.remaining - 1 } else l

end Sys2Proof.Machine
end

