-- ==== Sys2Proof/Machine/Operands.lean ====
section
/-! DEFINITION. The operand fields of every register write (rules R83 to R94) and the values derived from them (rules
R96, R98). -/

namespace Sys2Proof.Machine

/-- Offsets 0x00, 0x04: `data[7:6]` (rule R84). -/
def dutyField (data : Byte) : Nat := (data.extractLsb' 6 2).toNat

/-- Offsets 0x00, 0x04, 0x0C: `data[5]`, halt and envelope loop (rules R84, R90). -/
def haltLoopField (data : Byte) : Bool := data.getLsbD 5

/-- Offsets 0x00, 0x04, 0x0C: `data[4]` (rules R84, R90). -/
def constantField (data : Byte) : Bool := data.getLsbD 4

/-- Offsets 0x00, 0x04, 0x0C: `data[3:0]` (rules R84, R90). -/
def paramField (data : Byte) : Nat := (data.extractLsb' 0 4).toNat

/-- Offsets 0x01, 0x05: `data[7]` (rule R85). -/
def sweepEnabledField (data : Byte) : Bool := data.getLsbD 7

/-- Offsets 0x01, 0x05: `data[6:4]` (rule R85). -/
def sweepPeriodField (data : Byte) : Nat := (data.extractLsb' 4 3).toNat

/-- Offsets 0x01, 0x05: `data[3]` (rule R85). -/
def sweepNegateField (data : Byte) : Bool := data.getLsbD 3

/-- Offsets 0x01, 0x05: `data[2:0]` (rule R85). -/
def sweepShiftField (data : Byte) : Nat := (data.extractLsb' 0 3).toNat

/-- Offsets 0x03, 0x07, 0x0B, 0x0F: `data[7:3]` (rules R87, R92). -/
def lengthIndexField (data : Byte) : Nat := (data.extractLsb' 3 5).toNat

/-- The 11-bit period value `t` of a pulse or triangle channel (rules R86, R87, R96). -/
def periodValue (sh : Shadow) : Nat := (sh.sh3.extractLsb' 0 3 ++ sh.sh2).toNat

/-- Offset 0x08: `data[7]` (rule R88). -/
def controlField (data : Byte) : Bool := data.getLsbD 7

/-- Offset 0x08: `data[6:0]` (rule R88). -/
def linLengthField (data : Byte) : Nat := (data.extractLsb' 0 7).toNat

/-- Offset 0x0E: `data[7]` (rule R91). -/
def noiseModeField (data : Byte) : Bool := data.getLsbD 7

/-- Offsets 0x0E, 0x10: `data[3:0]`, the index into the period table (rules R83, R91). -/
def periodIndexField (data : Byte) : Nat := (data.extractLsb' 0 4).toNat

/-- Offset 0x10: `data[7]` (rule R83). -/
def irqEnabledField (data : Byte) : Bool := data.getLsbD 7

/-- Offset 0x10: `data[6]` (rule R83). -/
def loopField (data : Byte) : Bool := data.getLsbD 6

/-- Offset 0x11: `data[6:0]` (rules R83, R271). -/
def levelField (data : Byte) : Nat := (data.extractLsb' 0 7).toNat

/-- Offset 0x17: `data[7]` (rule R93). -/
def frameModeField (data : Byte) : FrameMode := if data.getLsbD 7 then .fiveStep else .fourStep

/-- Offset 0x15: the enable bit of a channel, 0 pulse 1 to 4 DMC (rule R94). -/
def enableField (data : Byte) (channel : Nat) : Bool := data.getLsbD channel

end Sys2Proof.Machine
end

