-- ==== Sys2Proof/Machine/Dmc.lean ====
section
/-! DEFINITION. The delta-modulation channel (rules R260 to R276) and its register writes (rules R327 to R330). -/

namespace Sys2Proof.Machine

/-- Rule R263. -/
def nextAddress (a : Addr) : Addr := if a = 0xFFFF#16 then 0x8000#16 else a + 1

/-- The sample starts (again) from its first byte (rules R264, R268). -/
def DmcChannel.restart (d : DmcChannel) : DmcChannel :=
  { d with curAddress := d.sampleAddress, bytesRemaining := d.sampleLength }

/-- `DMC.end_of_sample` (rule R264). -/
def DmcChannel.endOfSample (d : DmcChannel) : DmcChannel :=
  if d.loop then d.restart
  else if d.irqEnabled then d.raiseIrq
  else d

/-- A fetched byte is buffered and the cursor moves past it (rule R262). -/
def DmcChannel.takeByte (d : DmcChannel) (b : Byte) : DmcChannel :=
  let d := { d with
    buffer := some b
    curAddress := nextAddress d.curAddress
    bytesRemaining := d.bytesRemaining - 1 }
  if d.bytesRemaining = 0 then d.endOfSample else d

/-- The memory unit reads the bus in this tick (rule R262). -/
def DmcChannel.fetches (d : DmcChannel) : Bool := d.buffer.isNone && decide (0 < d.bytesRemaining)

/-- `DMC.memory_unit` (rule R262). -/
def DmcChannel.memoryUnit (d : DmcChannel) (bus : Bus) : DmcChannel × Bus :=
  if d.fetches then
    let (b, bus) := bus.read d.curAddress
    (d.takeByte b, bus)
  else (d, bus)

/-- The level after one bit (rule R265). -/
def deltaLevel (bit : Bool) (level : Nat) : Nat := if bit then min (level + 2) 125 else max (level - 2) 2

/-- The output unit's bit step (rule R265). -/
def DmcChannel.bitStep (d : DmcChannel) : DmcChannel :=
  if d.silence then d
  else { d with level := deltaLevel (d.shiftReg.getLsbD 0) d.level, shiftReg := d.shiftReg >>> 1 }

/-- The output unit's byte boundary (rule R266). -/
def DmcChannel.byteBoundary (d : DmcChannel) : DmcChannel :=
  let d := { d with bitsLeft := d.bitsLeft - 1 }
  if d.bitsLeft = 0 then
    match d.buffer with
    | some b => { d with bitsLeft := 8, shiftReg := b, buffer := none, silence := false }
    | none => { d with bitsLeft := 8, silence := true }
  else d

/-- `DMC.output_unit` (rules R265, R266). -/
def DmcChannel.outputUnit (d : DmcChannel) : DmcChannel := d.bitStep.byteBoundary

/-- `DMC.tick`: the memory unit, then the output unit (rule R261). -/
def DmcChannel.tick (d : DmcChannel) (bus : Bus) : DmcChannel × Bus :=
  let (d, bus) := d.memoryUnit bus
  (d.outputUnit, bus)

/-- `Channel.onTimer(dmc, n)` (rule R267). -/
def DmcChannel.onTimer (n : Nat) (d : DmcChannel) (bus : Bus) : DmcChannel × Bus :=
  match n with
  | 0 => (d, bus)
  | n + 1 =>
    let (d, bus) := d.tick bus
    DmcChannel.onTimer n d bus

/-- The channel's part of one sample step; it has no frame work (rules R130, R276). -/
def DmcChannel.sampleWork (c : Config) (d : DmcChannel) (bus : Bus) : DmcChannel × Bus :=
  let (timer, n) := d.timer.advance c c.cps
  DmcChannel.onTimer n { d with timer := timer } bus

/-- `amp(dmc)` (rule R273). -/
def DmcChannel.amp (d : DmcChannel) : Nat := d.level * inertEnvelopeLevel

/-- `DMC.set_enabled` (rules R268, R269). -/
def DmcChannel.setEnabled (d : DmcChannel) (e : Bool) : DmcChannel :=
  if e then (if d.bytesRemaining = 0 then d.restart else d)
  else ({ d with bytesRemaining := 0 } : DmcChannel).clearIrq

/-- Rules R270, R275, R327. -/
def DmcChannel.writeCtrl (c : Config) (d : DmcChannel) (data : Byte) : Except Fault DmcChannel := do
  let p ← tableGet .dmcRateTable c.dmcRateTable (periodIndexField data)
  let d : DmcChannel := { d with
    sh := { d.sh with sh0 := data }
    irqEnabled := irqEnabledField data
    loop := loopField data
    timer := d.timer.setPeriod c ((p : Nat) : Q) }
  .ok (if irqEnabledField data then d else d.clearIrq)

/-- Rules R271, R328. -/
def DmcChannel.writeLevel (d : DmcChannel) (data : Byte) : DmcChannel :=
  { d with sh := { d.sh with sh1 := data }, level := levelField data }

/-- Rules R272, R329. -/
def DmcChannel.writeAddr (c : Config) (d : DmcChannel) (data : Byte) : DmcChannel :=
  { d with sh := { d.sh with sh2 := data }, sampleAddress := c.sampleAddress data }

/-- Rules R272, R330. -/
def DmcChannel.writeLen (c : Config) (d : DmcChannel) (data : Byte) : DmcChannel :=
  { d with sh := { d.sh with sh3 := data }, sampleLength := c.sampleLength data }

end Sys2Proof.Machine
end

