-- ==== Sys2Proof/Machine/Mixer.lean ====
section
/-! DEFINITION. The non-linear mixer (rules R290 to R293) and the output filter chain (rules R294 to R297), in binary64
with every operation rounded in the order written (rule R14). -/

namespace Sys2Proof.Machine

/-- Rule R291. -/
def pulseOut (sq1 sq2 : Nat) : F64 :=
  if sq1 + sq2 = 0 then F64.zero false
  else (F64.decimal 9588 2).div (((F64.ofNat 8128).div (F64.ofNat (sq1 + sq2))).add (F64.ofNat 100))

/-- Rule R292. -/
def tndOut (tri noise dmc : Nat) : F64 :=
  if tri = 0 ∧ noise = 0 ∧ dmc = 0 then F64.zero false
  else
    let sum := (((F64.ofNat tri).div (F64.ofNat 8227)).add ((F64.ofNat noise).div (F64.ofNat 12241))).add
      ((F64.ofNat dmc).div (F64.ofNat 22638))
    (F64.decimal 15979 2).div (((F64.ofNat 1).div sum).add (F64.ofNat 100))

/-- `Mix` (rule R293). -/
def mix (sq1 sq2 tri noise dmc : Nat) : F64 := (pulseOut sq1 sq2).add (tndOut tri noise dmc)

/-- The low-pass stage (rule R294). -/
def lowPass (c : Config) (lp x : F64) : F64 := lp.add (c.lpfAlpha.mul (x.sub lp))

/-- The DC estimate of the second stage (rule R296). -/
def dcEstimate (c : Config) (dc lp : F64) : F64 :=
  (c.hpfCoeff.mul dc).add (((F64.ofNat 1).sub c.hpfCoeff).mul lp)

/-- The filter chain on one input: the new filter state and the output `y` (rules R294, R296, R297). -/
def FilterState.advance (c : Config) (f : FilterState) (x : F64) : FilterState × F64 :=
  let lp := lowPass c f.lp x
  let dc := dcEstimate c f.dc lp
  (⟨lp, dc⟩, lp.sub dc)

end Sys2Proof.Machine
end

