-- ==== Sys2Proof/Machine/Noise.lean ====
section
/-! DEFINITION. The noise channel (rules R240 to R247) and its register writes (rules R323 to R326). -/

namespace Sys2Proof.Machine

/-- `LFSR.step` (rule R241). -/
def lfsrStep (mode : Bool) (l : BitVec 15) : BitVec 15 :=
  let fb := Bool.xor (l.getLsbD 0) (l.getLsbD (if mode then 6 else 1))
  (l >>> 1) ||| ((BitVec.ofBool fb).zeroExtend 15 <<< 14)

/-- `n` steps of the LFSR (rule R242). -/
def lfsrSteps (mode : Bool) (n : Nat) (l : BitVec 15) : BitVec 15 :=
  match n with
  | 0 => l
  | n + 1 => lfsrSteps mode n (lfsrStep mode l)

/-- Rule R247. -/
def NoiseChannel.onQuarterFrame (n : NoiseChannel) : NoiseChannel := { n with env := n.env.advance }

/-- Rule R247. -/
def NoiseChannel.onHalfFrame (n : NoiseChannel) : NoiseChannel := { n with len := n.len.clock n.halt }

/-- Rule R242. -/
def NoiseChannel.onTimer (n : NoiseChannel) (k : Nat) : NoiseChannel :=
  { n with lfsr := lfsrSteps n.mode k n.lfsr }

/-- The channel's part of one sample step (rule R130). -/
def NoiseChannel.sampleWork (c : Config) (ticks : List FrameTick) (n : NoiseChannel) : NoiseChannel :=
  let n := applyFrames NoiseChannel.onQuarterFrame NoiseChannel.onHalfFrame ticks n
  let (timer, k) := n.timer.advance c c.cps
  ({ n with timer := timer } : NoiseChannel).onTimer k

/-- `noise_out(noise)`, bit 0 of the register (rule R243). -/
def NoiseChannel.noiseOut (n : NoiseChannel) : Nat := (n.lfsr.getLsbD 0).toNat

/-- `amp(noise)` (rules R244, R245). -/
def NoiseChannel.amp (n : NoiseChannel) : Nat :=
  if !n.len.gate n.halt then 0 else n.noiseOut * n.env.level

/-- Rule R323. -/
def NoiseChannel.writeCtrl (n : NoiseChannel) (data : Byte) : NoiseChannel :=
  { n with
    sh := { n.sh with sh0 := data }
    halt := haltLoopField data
    env := n.env.configure (haltLoopField data) (constantField data) (paramField data) }

/-- Rule R324. -/
def NoiseChannel.writeUnused (n : NoiseChannel) (data : Byte) : NoiseChannel :=
  { n with sh := { n.sh with sh1 := data } }

/-- Rules R246, R325. -/
def NoiseChannel.writePeriod (c : Config) (n : NoiseChannel) (data : Byte) : Except Fault NoiseChannel := do
  let p ← tableGet .noisePeriodTable c.noisePeriodTable (periodIndexField data)
  .ok { n with
    sh := { n.sh with sh2 := data }
    mode := noiseModeField data
    timer := n.timer.setPeriod c ((p : Nat) : Q) }

/-- Rule R326. -/
def NoiseChannel.writeLen (c : Config) (n : NoiseChannel) (data : Byte) : Except Fault NoiseChannel := do
  let v ← tableGet .lengthTable c.lengthTable (lengthIndexField data)
  .ok { n with
    sh := { n.sh with sh3 := data }
    len := n.len.setConfigured v
    env := n.env.restart }

end Sys2Proof.Machine
end

