-- ==== Sys2Proof/Machine/Pulse.lean ====
section
/-! DEFINITION. The pulse channels (rules R200 to R208): the work of a sample step, the amplitude, and what a register
write does to a channel (rules R311 to R314, shared by both instances). -/

namespace Sys2Proof.Machine

/-- Rule R201. -/
def PulseChannel.onQuarterFrame (p : PulseChannel) : PulseChannel := { p with env := p.env.advance }

/-- Rule R202. -/
def PulseChannel.onHalfFrame (c : Config) (p : PulseChannel) : PulseChannel :=
  { p with
    sweep := p.sweep.advance
    timer := p.sweep.advanceTimer c p.timer
    len := p.len.clock p.halt }

/-- Rule R203. -/
def PulseChannel.onTimer (p : PulseChannel) (n : Nat) : PulseChannel := { p with step := (p.step + n) % 8 }

/-- The channel's part of one sample step: frame work, then the timer's ticks (rule R130). -/
def PulseChannel.sampleWork (c : Config) (ticks : List FrameTick) (p : PulseChannel) : PulseChannel :=
  let p := applyFrames PulseChannel.onQuarterFrame (PulseChannel.onHalfFrame c) ticks p
  let (timer, n) := p.timer.advance c c.cps
  ({ p with timer := timer } : PulseChannel).onTimer n

/-- `square_out(p) = DUTY_TABLE[p.duty][p.step]` (rule R204). -/
def PulseChannel.squareOut (c : Config) (p : PulseChannel) : Except Fault Nat := do
  let row ← tableGet .dutyTable c.dutyTable p.duty
  tableGet .dutyRow row p.step

/-- The sweep mutes the channel (rules R172, R206). -/
def PulseChannel.muted (p : PulseChannel) : Bool := p.sweep.mute p.timer.cur

/-- `amp(p)` (rules R205, R206). -/
def PulseChannel.amp (c : Config) (p : PulseChannel) : Except Fault Nat :=
  if p.muted then .ok 0
  else if !p.len.gate p.halt then .ok 0
  else do
    let out ← p.squareOut c
    .ok (out * p.env.level)

/-- The Timer's period from the shadow bytes (rule R207). -/
def PulseChannel.loadPeriod (c : Config) (p : PulseChannel) : PulseChannel :=
  { p with timer := p.timer.setPeriod c ((c.pulsePeriod.apply (periodValue p.sh) : Nat) : Q) }

/-- Rule R311. -/
def PulseChannel.writeCtrl (p : PulseChannel) (data : Byte) : PulseChannel :=
  { p with
    sh := { p.sh with sh0 := data }
    duty := dutyField data
    halt := haltLoopField data
    env := p.env.configure (haltLoopField data) (constantField data) (paramField data) }

/-- Rule R312. -/
def PulseChannel.writeSweep (p : PulseChannel) (data : Byte) : PulseChannel :=
  { p with
    sh := { p.sh with sh1 := data }
    sweep := p.sweep.configure (sweepEnabledField data) (sweepPeriodField data) (sweepNegateField data)
      (sweepShiftField data) }

/-- Rule R313. -/
def PulseChannel.writeTlo (c : Config) (p : PulseChannel) (data : Byte) : PulseChannel :=
  ({ p with sh := { p.sh with sh2 := data } } : PulseChannel).loadPeriod c

/-- Rules R208, R314. -/
def PulseChannel.writeThi (c : Config) (p : PulseChannel) (data : Byte) : Except Fault PulseChannel := do
  let v ← tableGet .lengthTable c.lengthTable (lengthIndexField data)
  let p := ({ p with sh := { p.sh with sh3 := data } } : PulseChannel).loadPeriod c
  .ok { p with
    len := p.len.setConfigured v
    env := p.env.restart
    step := if c.pulsePhaseResetOnHi then 0 else p.step }

end Sys2Proof.Machine
end

