-- ==== Sys2Proof/Machine/Triangle.lean ====
section
/-! DEFINITION. The triangle channel (rules R220 to R227) and its register writes (rules R319 to R322). -/

namespace Sys2Proof.Machine

/-- The linear counter (rule R221). -/
def TriangleChannel.onQuarterFrame (t : TriangleChannel) : TriangleChannel :=
  if t.linReload then { t with linear := t.linLength, linReload := t.control }
  else if 0 < t.linear then { t with linear := t.linear - 1 }
  else t

/-- Rule R222. -/
def TriangleChannel.onHalfFrame (t : TriangleChannel) : TriangleChannel :=
  { t with len := t.len.clock t.control }

/-- Rule R223. -/
def TriangleChannel.onTimer (t : TriangleChannel) (n : Nat) : TriangleChannel :=
  if t.running then { t with step := (t.step + n) % 32 } else t

/-- The channel's part of one sample step (rule R130). -/
def TriangleChannel.sampleWork (c : Config) (ticks : List FrameTick) (t : TriangleChannel) : TriangleChannel :=
  let t := applyFrames TriangleChannel.onQuarterFrame TriangleChannel.onHalfFrame ticks t
  let (timer, n) := t.timer.advance c c.cps
  ({ t with timer := timer } : TriangleChannel).onTimer n

/-- `amp(tri)` (rules R224, R225). -/
def TriangleChannel.amp (t : TriangleChannel) : Except Fault Nat := do
  let out ← tableGet .triangleRamp triangleRamp t.step
  .ok (out * inertEnvelopeLevel)

/-- The Timer's period from the shadow bytes (rule R226). -/
def TriangleChannel.loadPeriod (c : Config) (t : TriangleChannel) : TriangleChannel :=
  { t with timer := t.timer.setPeriod c ((c.trianglePeriod.apply (periodValue t.sh) : Nat) : Q) }

/-- Rules R227, R319. -/
def TriangleChannel.writeLinear (t : TriangleChannel) (data : Byte) : TriangleChannel :=
  { t with
    sh := { t.sh with sh0 := data }
    control := controlField data
    linLength := linLengthField data }

/-- Rule R320. -/
def TriangleChannel.writeUnused (t : TriangleChannel) (data : Byte) : TriangleChannel :=
  { t with sh := { t.sh with sh1 := data } }

/-- Rule R321. -/
def TriangleChannel.writeTlo (c : Config) (t : TriangleChannel) (data : Byte) : TriangleChannel :=
  ({ t with sh := { t.sh with sh2 := data } } : TriangleChannel).loadPeriod c

/-- Rules R227, R322. -/
def TriangleChannel.writeThi (c : Config) (t : TriangleChannel) (data : Byte) : Except Fault TriangleChannel := do
  let v ← tableGet .lengthTable c.lengthTable (lengthIndexField data)
  let t := ({ t with sh := { t.sh with sh3 := data } } : TriangleChannel).loadPeriod c
  .ok { t with len := t.len.setConfigured v, linReload := true }

end Sys2Proof.Machine
end

