-- ==== Sys2Proof/Machine/SampleStep.lean ====
section
/-! DEFINITION. The sample step (rule R130). -/

namespace Sys2Proof.Machine

/-- The five amplitudes mixed (rules R290 to R293). -/
def Apu.mixedOutput (c : Config) (a : Apu) : Except Fault F64 := do
  let sq1 ← a.p1.amp c
  let sq2 ← a.p2.amp c
  let tri ← a.tri.amp
  .ok (mix sq1 sq2 tri a.noise.amp a.dmc.amp)

/-- Every channel's part of one sample step, given the frame ticks (rule R130; rule R127: the order of the channels is
not observable). -/
def Apu.channelWork (c : Config) (fs : FrameSequencer) (ticks : List FrameTick) (a : Apu) (bus : Bus) : Apu × Bus :=
  let (dmc, bus) := a.dmc.sampleWork c bus
  ({ a with
    fs := fs
    p1 := a.p1.sampleWork c ticks
    p2 := a.p2.sampleWork c ticks
    tri := a.tri.sampleWork c ticks
    noise := a.noise.sampleWork c ticks
    dmc := dmc }, bus)

/-- `Emit(y)` after the filter chain has taken `x` (rules R297, R298). -/
def State.emit (s : State) (x : F64) : State :=
  let (filt, y) := s.apu.filt.advance s.cfg x
  { s with apu := { s.apu with filt := filt }, samples := s.samples ++ [y] }

/-- `SampleStep()` (rule R130). -/
def sampleStep (s : State) : Except Fault State := do
  let (fs, ticks) ← s.apu.fs.advance s.cfg s.cfg.cps
  let (apu, bus) := s.apu.channelWork s.cfg fs ticks s.bus
  let x ← apu.mixedOutput s.cfg
  .ok (({ s with apu := apu, bus := bus } : State).emit x)

/-- `k` sample steps. -/
def sampleSteps (k : Nat) (s : State) : Except Fault State :=
  match k with
  | 0 => .ok s
  | k + 1 => do
    let s ← sampleStep s
    sampleSteps k s

end Sys2Proof.Machine
end

