-- ==== Sys2Proof/Machine/Advance.lean ====
section
/-! DEFINITION. The meaning of `ADVANCE n` (rule R332). -/

namespace Sys2Proof.Machine

/-- The sample clock's ticks in `n` CPU cycles (rules R128, R332). -/
def State.sampleTicks (s : State) (n : Nat) : Timer × Nat := s.apu.sampleClock.advance s.cfg (n : Q)

/-- `ADV n`: the sample clock advances, then one sample step for each of its ticks (rule R332). -/
def execAdv (n : Nat) (s : State) : Host.Outcome State Fault Refusal :=
  let (clock, k) := s.sampleTicks n
  toOutcome (sampleSteps k (s.setSampleClock clock))

end Sys2Proof.Machine
end

