-- ==== Sys2Proof/Machine/Read.lean ====
section
/-! DEFINITION. The meanings of the reads: the status byte at 0x15 (rule R331) and open bus everywhere else (rule
R336). -/

namespace Sys2Proof.Machine

/-- A read of an offset other than 0x15 returns the draw `OPEN_BUS_READ` and changes no state of the block (rules R73,
R336). -/
def readOpenBus (off : Offset) (s : State) : Host.Outcome State Fault Refusal :=
  .next (({ s with openBusDraws := s.openBusDraws + 1 } : State).returnByte
    (Config.openBusRead s.openBusDraws off))

/-- `RD 0x15` (rule R331). -/
def execRdStatus (s : State) : Host.Outcome State Fault Refusal := .next (s.returnByte s.apu.statusByte)

/-- `RD 0x00` (rule R336). -/
def execRdOpen00 (s : State) : Host.Outcome State Fault Refusal := readOpenBus 0x00 s

/-- `RD 0x01` (rule R336). -/
def execRdOpen01 (s : State) : Host.Outcome State Fault Refusal := readOpenBus 0x01 s

/-- `RD 0x02` (rule R336). -/
def execRdOpen02 (s : State) : Host.Outcome State Fault Refusal := readOpenBus 0x02 s

/-- `RD 0x03` (rule R336). -/
def execRdOpen03 (s : State) : Host.Outcome State Fault Refusal := readOpenBus 0x03 s

/-- `RD 0x04` (rule R336). -/
def execRdOpen04 (s : State) : Host.Outcome State Fault Refusal := readOpenBus 0x04 s

/-- `RD 0x05` (rule R336). -/
def execRdOpen05 (s : State) : Host.Outcome State Fault Refusal := readOpenBus 0x05 s

/-- `RD 0x06` (rule R336). -/
def execRdOpen06 (s : State) : Host.Outcome State Fault Refusal := readOpenBus 0x06 s

/-- `RD 0x07` (rule R336). -/
def execRdOpen07 (s : State) : Host.Outcome State Fault Refusal := readOpenBus 0x07 s

/-- `RD 0x08` (rule R336). -/
def execRdOpen08 (s : State) : Host.Outcome State Fault Refusal := readOpenBus 0x08 s

/-- `RD 0x09` (rule R336). -/
def execRdOpen09 (s : State) : Host.Outcome State Fault Refusal := readOpenBus 0x09 s

/-- `RD 0x0A` (rule R336). -/
def execRdOpen0A (s : State) : Host.Outcome State Fault Refusal := readOpenBus 0x0A s

/-- `RD 0x0B` (rule R336). -/
def execRdOpen0B (s : State) : Host.Outcome State Fault Refusal := readOpenBus 0x0B s

/-- `RD 0x0C` (rule R336). -/
def execRdOpen0C (s : State) : Host.Outcome State Fault Refusal := readOpenBus 0x0C s

/-- `RD 0x0D` (rule R336). -/
def execRdOpen0D (s : State) : Host.Outcome State Fault Refusal := readOpenBus 0x0D s

/-- `RD 0x0E` (rule R336). -/
def execRdOpen0E (s : State) : Host.Outcome State Fault Refusal := readOpenBus 0x0E s

/-- `RD 0x0F` (rule R336). -/
def execRdOpen0F (s : State) : Host.Outcome State Fault Refusal := readOpenBus 0x0F s

/-- `RD 0x10` (rule R336). -/
def execRdOpen10 (s : State) : Host.Outcome State Fault Refusal := readOpenBus 0x10 s

/-- `RD 0x11` (rule R336). -/
def execRdOpen11 (s : State) : Host.Outcome State Fault Refusal := readOpenBus 0x11 s

/-- `RD 0x12` (rule R336). -/
def execRdOpen12 (s : State) : Host.Outcome State Fault Refusal := readOpenBus 0x12 s

/-- `RD 0x13` (rule R336). -/
def execRdOpen13 (s : State) : Host.Outcome State Fault Refusal := readOpenBus 0x13 s

/-- `RD 0x14` (rule R336). -/
def execRdOpen14 (s : State) : Host.Outcome State Fault Refusal := readOpenBus 0x14 s

/-- `RD 0x16` (rule R336). -/
def execRdOpen16 (s : State) : Host.Outcome State Fault Refusal := readOpenBus 0x16 s

/-- `RD 0x17` (rule R336). -/
def execRdOpen17 (s : State) : Host.Outcome State Fault Refusal := readOpenBus 0x17 s

/-- `RD 0x18` (rule R336). -/
def execRdOpen18 (s : State) : Host.Outcome State Fault Refusal := readOpenBus 0x18 s

/-- `RD 0x19` (rule R336). -/
def execRdOpen19 (s : State) : Host.Outcome State Fault Refusal := readOpenBus 0x19 s

/-- `RD 0x1A` (rule R336). -/
def execRdOpen1A (s : State) : Host.Outcome State Fault Refusal := readOpenBus 0x1A s

/-- `RD 0x1B` (rule R336). -/
def execRdOpen1B (s : State) : Host.Outcome State Fault Refusal := readOpenBus 0x1B s

/-- `RD 0x1C` (rule R336). -/
def execRdOpen1C (s : State) : Host.Outcome State Fault Refusal := readOpenBus 0x1C s

/-- `RD 0x1D` (rule R336). -/
def execRdOpen1D (s : State) : Host.Outcome State Fault Refusal := readOpenBus 0x1D s

/-- `RD 0x1E` (rule R336). -/
def execRdOpen1E (s : State) : Host.Outcome State Fault Refusal := readOpenBus 0x1E s

/-- `RD 0x1F` (rule R336). -/
def execRdOpen1F (s : State) : Host.Outcome State Fault Refusal := readOpenBus 0x1F s

end Sys2Proof.Machine
end

