-- ==== Sys2Proof/Machine/WriteControl.lean ====
section
/-! DEFINITION. The meanings of the two control writes: channel enables at 0x15 (rule R333) and frame-counter control at
0x17 (rule R334). -/

namespace Sys2Proof.Machine

/-- The five enable updates of a write to 0x15 (rule R333). -/
def Apu.writeEnables (a : Apu) (data : Byte) : Apu :=
  { a with
    p1 := { a.p1 with len := a.p1.len.setEnabled (enableField data 0) }
    p2 := { a.p2 with len := a.p2.len.setEnabled (enableField data 1) }
    tri := { a.tri with len := a.tri.len.setEnabled (enableField data 2) }
    noise := { a.noise with len := a.noise.len.setEnabled (enableField data 3) }
    dmc := a.dmc.setEnabled (enableField data 4) }

/-- `WR 0x15` (rule R333). -/
def execWrStatus (data : Byte) (s : State) : Host.Outcome State Fault Refusal :=
  .next { s with apu := s.apu.writeEnables data }

/-- `WR 0x17` (rule R334). -/
def execWrFrame (data : Byte) (s : State) : Host.Outcome State Fault Refusal :=
  .next (s.setFs (s.apu.fs.setMode s.cfg (frameModeField data)))

end Sys2Proof.Machine
end

