-- ==== Sys2Proof/Machine/WriteDmc.lean ====
section
/-! DEFINITION. The meanings of the DMC register writes, offsets 0x10 to 0x13 (rules R327 to R330). -/

namespace Sys2Proof.Machine

/-- `WR 0x10` (rule R327). -/
def execWrDmcCtrl (data : Byte) (s : State) : Host.Outcome State Fault Refusal :=
  toOutcome ((s.apu.dmc.writeCtrl s.cfg data).map s.setDmc)

/-- `WR 0x11` (rule R328). -/
def execWrDmcLevel (data : Byte) (s : State) : Host.Outcome State Fault Refusal :=
  .next (s.setDmc (s.apu.dmc.writeLevel data))

/-- `WR 0x12` (rule R329). -/
def execWrDmcAddr (data : Byte) (s : State) : Host.Outcome State Fault Refusal :=
  .next (s.setDmc (s.apu.dmc.writeAddr s.cfg data))

/-- `WR 0x13` (rule R330). -/
def execWrDmcLen (data : Byte) (s : State) : Host.Outcome State Fault Refusal :=
  .next (s.setDmc (s.apu.dmc.writeLen s.cfg data))

end Sys2Proof.Machine
end

