-- ==== Sys2Proof/Machine/WriteNoise.lean ====
section
/-! DEFINITION. The meanings of the noise register writes, offsets 0x0C to 0x0F (rules R323 to R326). -/

namespace Sys2Proof.Machine

/-- `WR 0x0C` (rule R323). -/
def execWrNoiseCtrl (data : Byte) (s : State) : Host.Outcome State Fault Refusal :=
  .next (s.setNoise (s.apu.noise.writeCtrl data))

/-- `WR 0x0D` (rule R324). -/
def execWrNoiseUnused (data : Byte) (s : State) : Host.Outcome State Fault Refusal :=
  .next (s.setNoise (s.apu.noise.writeUnused data))

/-- `WR 0x0E` (rule R325). -/
def execWrNoisePeriod (data : Byte) (s : State) : Host.Outcome State Fault Refusal :=
  toOutcome ((s.apu.noise.writePeriod s.cfg data).map s.setNoise)

/-- `WR 0x0F` (rule R326). -/
def execWrNoiseLen (data : Byte) (s : State) : Host.Outcome State Fault Refusal :=
  toOutcome ((s.apu.noise.writeLen s.cfg data).map s.setNoise)

end Sys2Proof.Machine
end

