-- ==== Sys2Proof/Machine/WritePulse.lean ====
section
/-! DEFINITION. The meanings of the pulse register writes, offsets 0x00 to 0x07 (rules R311 to R318). -/

namespace Sys2Proof.Machine

/-- A length-loading write of pulse 1: the new channel, or the table fault. -/
def updateP1 (s : State) (r : Except Fault PulseChannel) : Host.Outcome State Fault Refusal :=
  toOutcome (r.map s.setP1)

/-- A length-loading write of pulse 2: the new channel, or the table fault. -/
def updateP2 (s : State) (r : Except Fault PulseChannel) : Host.Outcome State Fault Refusal :=
  toOutcome (r.map s.setP2)

/-- `WR 0x00` (rule R311). -/
def execWrP1Ctrl (data : Byte) (s : State) : Host.Outcome State Fault Refusal :=
  .next (s.setP1 (s.apu.p1.writeCtrl data))

/-- `WR 0x01` (rule R312). -/
def execWrP1Sweep (data : Byte) (s : State) : Host.Outcome State Fault Refusal :=
  .next (s.setP1 (s.apu.p1.writeSweep data))

/-- `WR 0x02` (rule R313). -/
def execWrP1Tlo (data : Byte) (s : State) : Host.Outcome State Fault Refusal :=
  .next (s.setP1 (s.apu.p1.writeTlo s.cfg data))

/-- `WR 0x03` (rule R314). -/
def execWrP1Thi (data : Byte) (s : State) : Host.Outcome State Fault Refusal :=
  updateP1 s (s.apu.p1.writeThi s.cfg data)

/-- `WR 0x04` (rule R315). -/
def execWrP2Ctrl (data : Byte) (s : State) : Host.Outcome State Fault Refusal :=
  .next (s.setP2 (s.apu.p2.writeCtrl data))

/-- `WR 0x05` (rule R316). -/
def execWrP2Sweep (data : Byte) (s : State) : Host.Outcome State Fault Refusal :=
  .next (s.setP2 (s.apu.p2.writeSweep data))

/-- `WR 0x06` (rule R317). -/
def execWrP2Tlo (data : Byte) (s : State) : Host.Outcome State Fault Refusal :=
  .next (s.setP2 (s.apu.p2.writeTlo s.cfg data))

/-- `WR 0x07` (rule R318). -/
def execWrP2Thi (data : Byte) (s : State) : Host.Outcome State Fault Refusal :=
  updateP2 s (s.apu.p2.writeThi s.cfg data)

end Sys2Proof.Machine
end

