-- ==== Sys2Proof/Machine/WriteTriangle.lean ====
section
/-! DEFINITION. The meanings of the triangle register writes, offsets 0x08 to 0x0B (rules R319 to R322). -/

namespace Sys2Proof.Machine

/-- `WR 0x08` (rule R319). -/
def execWrTriLinear (data : Byte) (s : State) : Host.Outcome State Fault Refusal :=
  .next (s.setTri (s.apu.tri.writeLinear data))

/-- `WR 0x09` (rule R320). -/
def execWrTriUnused (data : Byte) (s : State) : Host.Outcome State Fault Refusal :=
  .next (s.setTri (s.apu.tri.writeUnused data))

/-- `WR 0x0A` (rule R321). -/
def execWrTriTlo (data : Byte) (s : State) : Host.Outcome State Fault Refusal :=
  .next (s.setTri (s.apu.tri.writeTlo s.cfg data))

/-- `WR 0x0B` (rule R322). -/
def execWrTriThi (data : Byte) (s : State) : Host.Outcome State Fault Refusal :=
  toOutcome ((s.apu.tri.writeThi s.cfg data).map s.setTri)

end Sys2Proof.Machine
end

