-- ==== Sys2Proof/Machine/WriteUnmapped.lean ====
section
/-! DEFINITION. The meanings of the writes to unmapped offsets (rules R74, R335). -/

namespace Sys2Proof.Machine

/-- A write at an offset the map does not assign changes no state; its data byte is ignored (rule R335). -/
def writeUnmapped (_data : Byte) (s : State) : Host.Outcome State Fault Refusal := .next s

/-- `WR 0x14` (rule R335). -/
def execWrUnmapped14 (data : Byte) (s : State) : Host.Outcome State Fault Refusal := writeUnmapped data s

/-- `WR 0x16` (rule R335). -/
def execWrUnmapped16 (data : Byte) (s : State) : Host.Outcome State Fault Refusal := writeUnmapped data s

/-- `WR 0x18` (rule R335). -/
def execWrUnmapped18 (data : Byte) (s : State) : Host.Outcome State Fault Refusal := writeUnmapped data s

/-- `WR 0x19` (rule R335). -/
def execWrUnmapped19 (data : Byte) (s : State) : Host.Outcome State Fault Refusal := writeUnmapped data s

/-- `WR 0x1A` (rule R335). -/
def execWrUnmapped1A (data : Byte) (s : State) : Host.Outcome State Fault Refusal := writeUnmapped data s

/-- `WR 0x1B` (rule R335). -/
def execWrUnmapped1B (data : Byte) (s : State) : Host.Outcome State Fault Refusal := writeUnmapped data s

/-- `WR 0x1C` (rule R335). -/
def execWrUnmapped1C (data : Byte) (s : State) : Host.Outcome State Fault Refusal := writeUnmapped data s

/-- `WR 0x1D` (rule R335). -/
def execWrUnmapped1D (data : Byte) (s : State) : Host.Outcome State Fault Refusal := writeUnmapped data s

/-- `WR 0x1E` (rule R335). -/
def execWrUnmapped1E (data : Byte) (s : State) : Host.Outcome State Fault Refusal := writeUnmapped data s

/-- `WR 0x1F` (rule R335). -/
def execWrUnmapped1F (data : Byte) (s : State) : Host.Outcome State Fault Refusal := writeUnmapped data s

end Sys2Proof.Machine
end

