-- ==== Sys2Proof/Machine/Dispatch.lean ====
section
/-! DEFINITION. The meaning of every host operation, one arm per constructor of `Instr`. -/

namespace Sys2Proof.Machine

def exec (i : Instr) (s : State) : Host.Outcome State Fault Refusal :=
  match i with
  | .wrP1Ctrl data => Sys2Proof.Machine.execWrP1Ctrl data s
  | .wrP1Sweep data => Sys2Proof.Machine.execWrP1Sweep data s
  | .wrP1Tlo data => Sys2Proof.Machine.execWrP1Tlo data s
  | .wrP1Thi data => Sys2Proof.Machine.execWrP1Thi data s
  | .wrP2Ctrl data => Sys2Proof.Machine.execWrP2Ctrl data s
  | .wrP2Sweep data => Sys2Proof.Machine.execWrP2Sweep data s
  | .wrP2Tlo data => Sys2Proof.Machine.execWrP2Tlo data s
  | .wrP2Thi data => Sys2Proof.Machine.execWrP2Thi data s
  | .wrTriLinear data => Sys2Proof.Machine.execWrTriLinear data s
  | .wrTriUnused data => Sys2Proof.Machine.execWrTriUnused data s
  | .wrTriTlo data => Sys2Proof.Machine.execWrTriTlo data s
  | .wrTriThi data => Sys2Proof.Machine.execWrTriThi data s
  | .wrNoiseCtrl data => Sys2Proof.Machine.execWrNoiseCtrl data s
  | .wrNoiseUnused data => Sys2Proof.Machine.execWrNoiseUnused data s
  | .wrNoisePeriod data => Sys2Proof.Machine.execWrNoisePeriod data s
  | .wrNoiseLen data => Sys2Proof.Machine.execWrNoiseLen data s
  | .wrDmcCtrl data => Sys2Proof.Machine.execWrDmcCtrl data s
  | .wrDmcLevel data => Sys2Proof.Machine.execWrDmcLevel data s
  | .wrDmcAddr data => Sys2Proof.Machine.execWrDmcAddr data s
  | .wrDmcLen data => Sys2Proof.Machine.execWrDmcLen data s
  | .wrStatus data => Sys2Proof.Machine.execWrStatus data s
  | .wrFrame data => Sys2Proof.Machine.execWrFrame data s
  | .wrUnmapped14 data => Sys2Proof.Machine.execWrUnmapped14 data s
  | .wrUnmapped16 data => Sys2Proof.Machine.execWrUnmapped16 data s
  | .wrUnmapped18 data => Sys2Proof.Machine.execWrUnmapped18 data s
  | .wrUnmapped19 data => Sys2Proof.Machine.execWrUnmapped19 data s
  | .wrUnmapped1A data => Sys2Proof.Machine.execWrUnmapped1A data s
  | .wrUnmapped1B data => Sys2Proof.Machine.execWrUnmapped1B data s
  | .wrUnmapped1C data => Sys2Proof.Machine.execWrUnmapped1C data s
  | .wrUnmapped1D data => Sys2Proof.Machine.execWrUnmapped1D data s
  | .wrUnmapped1E data => Sys2Proof.Machine.execWrUnmapped1E data s
  | .wrUnmapped1F data => Sys2Proof.Machine.execWrUnmapped1F data s
  | .rdStatus => Sys2Proof.Machine.execRdStatus s
  | .rdOpen00 => Sys2Proof.Machine.execRdOpen00 s
  | .rdOpen01 => Sys2Proof.Machine.execRdOpen01 s
  | .rdOpen02 => Sys2Proof.Machine.execRdOpen02 s
  | .rdOpen03 => Sys2Proof.Machine.execRdOpen03 s
  | .rdOpen04 => Sys2Proof.Machine.execRdOpen04 s
  | .rdOpen05 => Sys2Proof.Machine.execRdOpen05 s
  | .rdOpen06 => Sys2Proof.Machine.execRdOpen06 s
  | .rdOpen07 => Sys2Proof.Machine.execRdOpen07 s
  | .rdOpen08 => Sys2Proof.Machine.execRdOpen08 s
  | .rdOpen09 => Sys2Proof.Machine.execRdOpen09 s
  | .rdOpen0A => Sys2Proof.Machine.execRdOpen0A s
  | .rdOpen0B => Sys2Proof.Machine.execRdOpen0B s
  | .rdOpen0C => Sys2Proof.Machine.execRdOpen0C s
  | .rdOpen0D => Sys2Proof.Machine.execRdOpen0D s
  | .rdOpen0E => Sys2Proof.Machine.execRdOpen0E s
  | .rdOpen0F => Sys2Proof.Machine.execRdOpen0F s
  | .rdOpen10 => Sys2Proof.Machine.execRdOpen10 s
  | .rdOpen11 => Sys2Proof.Machine.execRdOpen11 s
  | .rdOpen12 => Sys2Proof.Machine.execRdOpen12 s
  | .rdOpen13 => Sys2Proof.Machine.execRdOpen13 s
  | .rdOpen14 => Sys2Proof.Machine.execRdOpen14 s
  | .rdOpen16 => Sys2Proof.Machine.execRdOpen16 s
  | .rdOpen17 => Sys2Proof.Machine.execRdOpen17 s
  | .rdOpen18 => Sys2Proof.Machine.execRdOpen18 s
  | .rdOpen19 => Sys2Proof.Machine.execRdOpen19 s
  | .rdOpen1A => Sys2Proof.Machine.execRdOpen1A s
  | .rdOpen1B => Sys2Proof.Machine.execRdOpen1B s
  | .rdOpen1C => Sys2Proof.Machine.execRdOpen1C s
  | .rdOpen1D => Sys2Proof.Machine.execRdOpen1D s
  | .rdOpen1E => Sys2Proof.Machine.execRdOpen1E s
  | .rdOpen1F => Sys2Proof.Machine.execRdOpen1F s
  | .adv n => Sys2Proof.Machine.execAdv n s

end Sys2Proof.Machine
end

