-- ==== Sys2Proof/Machine/Step.lean ====
section
/-! DEFINITION. One step of the machine: the host's next operation. The block has no program counter and no fetch; the
host's sequence of operations plays the part of a program (rule R20). -/

namespace Sys2Proof.Machine

/-- The next pending transaction is decoded and executed; one that spells no operation is refused (rule R337), and with
none pending nothing happens (rule R374; log entry 3). -/
def step (s : State) : Host.Outcome State Fault Refusal :=
  match s.pending with
  | [] => .next s
  | t :: _ =>
    match decode t with
    | .ok i => exec i s.dropPending
    | .error why => .refused (.invalidWord why)

/-- The host issues the transaction of a table row's word next (log entries 3 and 9). -/
def State.withFetchWord (s : State) (nbits w : Nat) : State := s.issue (transactionOfNat (w % 2 ^ nbits))

end Sys2Proof.Machine
end

