-- ==== Sys2Proof/Safety.lean ====
section
/-! DEFINITION. What a good state is: the range invariants of rule R46, the state's agreement with its shadow bytes, and
the DMC's address range (rule R64). -/

namespace Sys2Proof.Machine

/-- A channel timer's period is the policy's (rules R23, R121); its position is above 0 (rules R46, R126), or at least not below
it where the `disable` policy admits a period of 0. -/
structure Timer.Ok (c : Config) (t : Timer) : Prop where
  period : 0 ≤ t.period
  position : 0 ≤ t.position
  clamped : c.lowPeriodPolicy = .clamp → (c.timerMinPeriod : Q) ≤ t.period ∧ 0 < t.position

/-- A timer whose period no register sets, the sample clock's or the frame sequencer's: its period and its position are
above 0 under either policy (rules R11, R24, R46, R128). -/
structure Timer.Positive (t : Timer) : Prop where
  period : 0 < t.period
  position : 0 < t.position

/-- Rules R25, R46, R180: a disabled counter holds 0. -/
structure LengthCounter.Ok (l : LengthCounter) : Prop where
  remaining : l.remaining ≤ 255
  configured : l.configuredLength ≤ 255
  disabled : l.enabled = false → l.remaining = 0 ∧ l.configuredLength = 0

/-- Rules R26, R46. -/
structure Envelope.Ok (e : Envelope) : Prop where
  divider : e.divider ≤ 15
  decayLevel : e.decayLevel ≤ 15
  param : e.param ≤ 15

/-- Rule R27. -/
structure Sweep.Ok (sw : Sweep) : Prop where
  counter : sw.counter ≤ 7
  dividerPeriod : sw.dividerPeriod ≤ 7
  shift : sw.shift ≤ 7

/-- Rules R28, R171: every pulse period is an integer. -/
structure PulseChannel.Ok (c : Config) (p : PulseChannel) : Prop where
  timer : p.timer.Ok c
  integral : ∃ n : Nat, p.timer.period = (n : Q)
  duty : p.duty < 4
  step : p.step < 8
  env : p.env.Ok
  sweep : p.sweep.Ok
  len : p.len.Ok

/-- Rule R29. -/
structure TriangleChannel.Ok (c : Config) (t : TriangleChannel) : Prop where
  timer : t.timer.Ok c
  step : t.step < 32
  linear : t.linear ≤ 127
  linLength : t.linLength ≤ 127
  len : t.len.Ok

/-- Rules R30, R241: the all-zero register is unreachable. -/
structure NoiseChannel.Ok (c : Config) (n : NoiseChannel) : Prop where
  timer : n.timer.Ok c
  lfsr : n.lfsr ≠ 0
  env : n.env.Ok
  len : n.len.Ok

/-- Rules R31, R46. -/
structure DmcChannel.Ok (c : Config) (d : DmcChannel) : Prop where
  timer : d.timer.Ok c
  sampleLength : 1 ≤ d.sampleLength ∧ d.sampleLength ≤ 4081
  bytesRemaining : d.bytesRemaining ≤ 4081
  bitsLeft : 1 ≤ d.bitsLeft ∧ d.bitsLeft ≤ 8
  level : d.level ≤ 127

/-- Rules R24, R46. -/
structure FrameSequencer.Ok (f : FrameSequencer) : Prop where
  timer : f.timer.Positive
  step : f.step < f.mode.steps

/-- Rule R46: the block's ranges. -/
structure Apu.Ok (c : Config) (a : Apu) : Prop where
  sampleClock : a.sampleClock.Positive
  fs : a.fs.Ok
  p1 : a.p1.Ok c
  p2 : a.p2.Ok c
  tri : a.tri.Ok c
  noise : a.noise.Ok c
  dmc : a.dmc.Ok c

/-- The invariant of a run: the bus memory is in canonical form, and every field of the block is in its range (rule
R46). That rule R11 admits the configuration holds of every state (`AcceptedConfig`). -/
structure State.Inv (s : State) : Prop where
  mem : Memory.wf s.bus.mem = true
  apu : s.apu.Ok s.cfg

/-- A pulse channel's derived fields are those of its shadow bytes (rules R22, R84, R85); its period need not be,
because the sweep writes the Timer alone (rule R174). -/
structure PulseChannel.MatchesShadow (p : PulseChannel) : Prop where
  duty : p.duty = dutyField p.sh.sh0
  halt : p.halt = haltLoopField p.sh.sh0
  envLoop : p.env.loop = haltLoopField p.sh.sh0
  constant : p.env.constant = constantField p.sh.sh0
  param : p.env.param = paramField p.sh.sh0
  sweepEnabled : p.sweep.enabled = sweepEnabledField p.sh.sh1
  sweepPeriod : p.sweep.dividerPeriod = sweepPeriodField p.sh.sh1
  sweepNegate : p.sweep.negate = sweepNegateField p.sh.sh1
  sweepShift : p.sweep.shift = sweepShiftField p.sh.sh1

/-- Rules R22, R88, R98, R226. -/
structure TriangleChannel.MatchesShadow (c : Config) (t : TriangleChannel) : Prop where
  control : t.control = controlField t.sh.sh0
  linLength : t.linLength = linLengthField t.sh.sh0
  period : t.timer.period = c.clampP ((c.trianglePeriod.apply (periodValue t.sh) : Nat) : Q)

/-- Rules R22, R90, R91, R98, R246. -/
structure NoiseChannel.MatchesShadow (c : Config) (n : NoiseChannel) : Prop where
  halt : n.halt = haltLoopField n.sh.sh0
  envLoop : n.env.loop = haltLoopField n.sh.sh0
  constant : n.env.constant = constantField n.sh.sh0
  param : n.env.param = paramField n.sh.sh0
  mode : n.mode = noiseModeField n.sh.sh2
  period : ∃ p, c.noisePeriodTable[periodIndexField n.sh.sh2]? = some p ∧ n.timer.period = c.clampP ((p : Nat) : Q)

/-- Rules R22, R83, R98, R99, R275. -/
structure DmcChannel.MatchesShadow (c : Config) (d : DmcChannel) : Prop where
  irqEnabled : d.irqEnabled = irqEnabledField d.sh.sh0
  loop : d.loop = loopField d.sh.sh0
  period : ∃ p, c.dmcRateTable[periodIndexField d.sh.sh0]? = some p ∧ d.timer.period = c.clampP ((p : Nat) : Q)
  sampleAddress : d.sampleAddress = c.sampleAddress d.sh.sh2
  sampleLength : d.sampleLength = c.sampleLength d.sh.sh3

/-- Every field that rules R83 to R92 and R98 derive from a shadow byte agrees with it; the frame sequencer's period is the
mode's of rule R141, as constructed (rule R24) or as a mode write sets it (rule R145); the sample clock's is CPS (rule
R128); the sweeps keep the conventions they were built with (rule R27). -/
structure State.MatchesShadow (s : State) : Prop where
  p1 : s.apu.p1.MatchesShadow
  p2 : s.apu.p2.MatchesShadow
  tri : s.apu.tri.MatchesShadow s.cfg
  noise : s.apu.noise.MatchesShadow s.cfg
  dmc : s.apu.dmc.MatchesShadow s.cfg
  framePeriod : s.apu.fs.timer.period = s.cfg.frameTotalPeriod / (s.apu.fs.mode.steps : Q) ∨
    s.apu.fs.timer.period = s.cfg.clampP (s.cfg.frameTotalPeriod / (s.apu.fs.mode.steps : Q))
  samplePeriod : s.apu.sampleClock.period = s.cfg.cps
  convention1 : s.apu.p1.sweep.convention = s.cfg.sweepNegateP1
  convention2 : s.apu.p2.sweep.convention = s.cfg.sweepNegateP2

/-- The filter state lies in [0, 1] and is finite (rules R293, R362 (c)). -/
structure FilterState.Ok (f : FilterState) : Prop where
  lpFinite : f.lp.isFinite = true
  lpRange : 0 ≤ f.lp.toRat ∧ f.lp.toRat ≤ 1
  dcFinite : f.dc.isFinite = true
  dcRange : 0 ≤ f.dc.toRat ∧ f.dc.toRat ≤ 1

/-- Every sample pushed so far is a finite number between -1 and 1, and the filter state is in range. -/
structure State.SamplesFinite (s : State) : Prop where
  filt : s.apu.filt.Ok
  samples : ∀ y ∈ s.samples, y.isFinite = true ∧ -1 ≤ y.toRat ∧ y.toRat ≤ 1

/-- The upper half of the bus space, 0x8000 to 0xFFFF (rule R64). -/
def InUpperHalf (a : Addr) : Prop := 0x8000 ≤ a.toNat

/-- Every address the DMC has read or can read next lies in the upper half, under a configuration whose sample
addresses do (rule R64; the default's do). -/
structure State.DmcInUpperHalf (s : State) : Prop where
  cfg : ∀ a : Byte, InUpperHalf (s.cfg.sampleAddress a)
  sampleAddress : InUpperHalf s.apu.dmc.sampleAddress
  curAddress : InUpperHalf s.apu.dmc.curAddress
  log : ∀ a ∈ s.bus.log, InUpperHalf a

end Sys2Proof.Machine
end

