-- ==== Sys2Proof/Certificates/Slice0/Obligations.lean ====
section
/-! DEFINITION. The statements for the provers. -/

open Sys2Proof Sys2Proof.Machine

/-! ## Encoding and stepping -/

/-- Decode and encode agree on every operation, its data byte and its operand at every value. -/
def Obligations.DecodeOfEncodeIsTheOperation : Prop :=
  ∀ i : Instr, i.wellFormed = true → decode (encode i) = .ok i

/-- A word that decodes is the word its operation encodes to: no two words spell one operation (an ADVANCE keeps its
operand; the number beside a READ or WRITE is not read, log entry 8). -/
def Obligations.EncodeOfDecodeIsTheWord : Prop :=
  ∀ (t : Transaction) (i : Instr), decode t = .ok i →
    (encode i).word = t.word ∧ ∀ n, i = .adv n → t.operand = n

/-- Rules R82, R337: exactly the words of kind 11, with bit 13 set, READs with nonzero data and ADVANCEs with a nonzero
field spell no operation, and `step` refuses them; every other word decodes to exactly one row of the table. -/
def Obligations.InvalidWordsRefusedOthersHaveOneRow : Prop :=
  ∀ (w : BitVec 16) (n : Nat),
    ((∃ why, decode ⟨w, n⟩ = .error why) ↔
      w.toNat / 16384 = 3 ∨ w.toNat / 8192 % 2 = 1 ∨ (w.toNat / 16384 = 0 ∧ w.toNat % 256 ≠ 0) ∨
        (w.toNat / 16384 = 2 ∧ w.toNat % 8192 ≠ 0)) ∧
    (∀ s rest why, s.pending = ⟨w, n⟩ :: rest → decode ⟨w, n⟩ = .error why →
      step s = .refused (.invalidWord why)) ∧
    (∀ i, decode ⟨w, n⟩ = .ok i →
      i.row.matches w = true ∧ ∀ j : Instr, j.row.matches w = true → j.row = i.row)

/-- The words of 95_test_vectors.md V2.12, one or more of each kind. -/
def Obligations.WordsOfTheSpecDecodeAsWritten : Prop :=
  decode ⟨0x40BF, 0⟩ = .ok (.wrP1Ctrl 0xBF) ∧ decode ⟨0x4308, 0⟩ = .ok (.wrP1Thi 0x08) ∧
  decode ⟨0x4B18, 0⟩ = .ok (.wrTriThi 0x18) ∧ decode ⟨0x4E8F, 0⟩ = .ok (.wrNoisePeriod 0x8F) ∧
  decode ⟨0x5300, 0⟩ = .ok (.wrDmcLen 0x00) ∧ decode ⟨0x551F, 0⟩ = .ok (.wrStatus 0x1F) ∧
  decode ⟨0x5780, 0⟩ = .ok (.wrFrame 0x80) ∧ decode ⟨0x5FFF, 0⟩ = .ok (.wrUnmapped1F 0xFF) ∧
  decode ⟨0x1500, 0⟩ = .ok .rdStatus ∧ decode ⟨0x0000, 0⟩ = .ok .rdOpen00 ∧
  decode ⟨0x8000, 400⟩ = .ok (.adv 400) ∧
  decode ⟨0xC000, 0⟩ = .error .reservedKind ∧ decode ⟨0x2000, 0⟩ = .error .bit13Set ∧
  decode ⟨0x1501, 0⟩ = .error .readDataNonzero ∧ decode ⟨0x8100, 0⟩ = .error .advanceFieldNonzero

/-- A step takes the next pending transaction and, if it spells an operation, is that operation on the state without it;
a word put at the head by `withFetchWord` is run the same way; with nothing pending nothing happens (the last is
the model's choice, log entry 3). -/
def Obligations.StepRunsTheNextOperation : Prop :=
  (∀ (s : State) (t : Transaction) (rest : List Transaction) (i : Instr),
    s.pending = t :: rest → decode t = .ok i → step s = exec i { s with pending := rest }) ∧
  (∀ (s : State) (nbits w : Nat) (i : Instr),
    decodeTableWord nbits w = some i → step (s.withFetchWord nbits w) = exec i s) ∧
  (∀ s : State, s.pending = [] → step s = .next s)

/-- The assembly syntax: each well-formed line stands for the transactions rules R109 and R110 give, and an ill-formed one
for none. -/
def Obligations.AssemblyLinesStandForTheirWords : Prop :=
  (∀ off : Offset, (AsmLine.rd off.toNat).assemble = some [encodeRead off]) ∧
  (∀ (off : Offset) (data : Byte), (AsmLine.wr off.toNat data.toNat).assemble = some [encodeWrite off data]) ∧
  (∀ n, (AsmLine.adv n).assemble = some [encode (.adv n)]) ∧
  AsmLine.nop.assemble = some [encode (.adv 0)] ∧
  (∀ base t length : Nat, base = 0x00 ∨ base = 0x04 ∨ base = 0x08 → t < 2048 → length < 32 →
    (AsmLine.tone base t length).assemble =
      some [encodeWrite (BitVec.ofNat 5 (base + 2)) (BitVec.ofNat 8 (t % 256)),
        encodeWrite (BitVec.ofNat 5 (base + 3)) (BitVec.ofNat 8 (length * 8 + t / 256))]) ∧
  (∀ a : AsmLine, a.wellFormed = false → a.assemble = none)

/-! ## Register writes -/

/-- Rules R311, R315: the fields by their weights in the byte; everything else is as before. -/
def Obligations.PulseControlWriteSetsDutyHaltAndEnvelope : Prop :=
  ∀ (data : Byte) (s : State),
    let d := data.toNat
    let written (p : PulseChannel) : PulseChannel := { p with
      sh := { p.sh with sh0 := data }
      duty := d / 64
      halt := d / 32 % 2 == 1
      env := { p.env with loop := d / 32 % 2 == 1, constant := d / 16 % 2 == 1, param := d % 16 } }
    exec (.wrP1Ctrl data) s = .next { s with apu := { s.apu with p1 := written s.apu.p1 } } ∧
    exec (.wrP2Ctrl data) s = .next { s with apu := { s.apu with p2 := written s.apu.p2 } }

/-- Rules R170, R312, R316: the sweep's fields, and the reload armed; the counter and the period are as before. -/
def Obligations.PulseSweepWriteConfiguresAndArmsReload : Prop :=
  ∀ (data : Byte) (s : State),
    let d := data.toNat
    let written (p : PulseChannel) : PulseChannel := { p with
      sh := { p.sh with sh1 := data }
      sweep := { p.sweep with
        enabled := d / 128 == 1, dividerPeriod := d / 16 % 8, negate := d / 8 % 2 == 1, shift := d % 8,
        reload := true } }
    exec (.wrP1Sweep data) s = .next { s with apu := { s.apu with p1 := written s.apu.p1 } } ∧
    exec (.wrP2Sweep data) s = .next { s with apu := { s.apu with p2 := written s.apu.p2 } }

/-- Rules R313, R317: the period from both shadow bytes; the position is kept. -/
def Obligations.PulseTimerLowWriteSetsPeriod : Prop :=
  ∀ (data : Byte) (s : State),
    let written (p : PulseChannel) : PulseChannel := { p with
      sh := { p.sh with sh2 := data }
      timer := { p.timer with
        period := s.cfg.clampP ((s.cfg.pulsePeriod.apply (p.sh.sh3.toNat % 8 * 256 + data.toNat) : Nat) : Q) } }
    exec (.wrP1Tlo data) s = .next { s with apu := { s.apu with p1 := written s.apu.p1 } } ∧
    exec (.wrP2Tlo data) s = .next { s with apu := { s.apu with p2 := written s.apu.p2 } }

/-- Rules R208, R314, R318: period, length load (ignored while disabled), envelope restart and the optional phase
reset. -/
def Obligations.PulseTimerHighWriteLoadsLengthAndRestarts : Prop :=
  ∀ (data : Byte) (s : State),
    ∃ v, s.cfg.lengthTable[data.toNat / 8]? = some v ∧
      let written (p : PulseChannel) : PulseChannel := { p with
        sh := { p.sh with sh3 := data }
        timer := { p.timer with
          period := s.cfg.clampP ((s.cfg.pulsePeriod.apply (data.toNat % 8 * 256 + p.sh.sh2.toNat) : Nat) : Q) }
        len := if p.len.enabled then { p.len with configuredLength := v, remaining := v } else p.len
        env := { p.env with start := true }
        step := if s.cfg.pulsePhaseResetOnHi then 0 else p.step }
      exec (.wrP1Thi data) s = .next { s with apu := { s.apu with p1 := written s.apu.p1 } } ∧
      exec (.wrP2Thi data) s = .next { s with apu := { s.apu with p2 := written s.apu.p2 } }

/-- Rules R319, R320. -/
def Obligations.TriangleLinearAndUnusedWrites : Prop :=
  ∀ (data : Byte) (s : State),
    let t := s.apu.tri
    exec (.wrTriLinear data) s = .next { s with apu := { s.apu with tri := { t with
      sh := { t.sh with sh0 := data }, control := data.toNat / 128 == 1, linLength := data.toNat % 128 } } } ∧
    exec (.wrTriUnused data) s = .next { s with apu := { s.apu with tri := { t with
      sh := { t.sh with sh1 := data } } } }

/-- Rules R321, R322. -/
def Obligations.TriangleTimerWritesSetPeriodLengthAndReload : Prop :=
  ∀ (data : Byte) (s : State),
    let t := s.apu.tri
    let period (hi lo : Nat) : Q := s.cfg.clampP ((s.cfg.trianglePeriod.apply (hi % 8 * 256 + lo) : Nat) : Q)
    exec (.wrTriTlo data) s = .next { s with apu := { s.apu with tri := { t with
      sh := { t.sh with sh2 := data }
      timer := { t.timer with period := period t.sh.sh3.toNat data.toNat } } } } ∧
    ∃ v, s.cfg.lengthTable[data.toNat / 8]? = some v ∧
      exec (.wrTriThi data) s = .next { s with apu := { s.apu with tri := { t with
        sh := { t.sh with sh3 := data }
        timer := { t.timer with period := period data.toNat t.sh.sh2.toNat }
        len := if t.len.enabled then { t.len with configuredLength := v, remaining := v } else t.len
        linReload := true } } }

/-- Rules R323, R324. -/
def Obligations.NoiseEnvelopeAndUnusedWrites : Prop :=
  ∀ (data : Byte) (s : State),
    let d := data.toNat
    let n := s.apu.noise
    exec (.wrNoiseCtrl data) s = .next { s with apu := { s.apu with noise := { n with
      sh := { n.sh with sh0 := data }
      halt := d / 32 % 2 == 1
      env := { n.env with loop := d / 32 % 2 == 1, constant := d / 16 % 2 == 1, param := d % 16 } } } } ∧
    exec (.wrNoiseUnused data) s = .next { s with apu := { s.apu with noise := { n with
      sh := { n.sh with sh1 := data } } } }

/-- Rules R246, R325, R326. -/
def Obligations.NoisePeriodAndLengthWrites : Prop :=
  ∀ (data : Byte) (s : State),
    let n := s.apu.noise
    (∃ p, s.cfg.noisePeriodTable[data.toNat % 16]? = some p ∧
      exec (.wrNoisePeriod data) s = .next { s with apu := { s.apu with noise := { n with
        sh := { n.sh with sh2 := data }
        mode := data.toNat / 128 == 1
        timer := { n.timer with period := s.cfg.clampP ((p : Nat) : Q) } } } }) ∧
    ∃ v, s.cfg.lengthTable[data.toNat / 8]? = some v ∧
      exec (.wrNoiseLen data) s = .next { s with apu := { s.apu with noise := { n with
        sh := { n.sh with sh3 := data }
        len := if n.len.enabled then { n.len with configuredLength := v, remaining := v } else n.len
        env := { n.env with start := true } } } }

/-- Rules R270, R327: rate, loop, interrupt enable, and the interrupt cleared when bit 7 is 0. -/
def Obligations.DmcControlWriteSetsRateLoopAndIrq : Prop :=
  ∀ (data : Byte) (s : State),
    let d := s.apu.dmc
    ∃ p, s.cfg.dmcRateTable[data.toNat % 16]? = some p ∧
      exec (.wrDmcCtrl data) s = .next { s with apu := { s.apu with dmc := { d with
        sh := { d.sh with sh0 := data }
        irqEnabled := data.toNat / 128 == 1
        loop := data.toNat / 64 % 2 == 1
        irqLatched := data.toNat / 128 == 1 && d.irqLatched
        timer := { d.timer with period := s.cfg.clampP ((p : Nat) : Q) } } } }

/-- Rules R271, R272, R328, R329, R330: level at once; address and length for the next restart only. -/
def Obligations.DmcLevelAddressAndLengthWrites : Prop :=
  ∀ (data : Byte) (s : State),
    let d := s.apu.dmc
    exec (.wrDmcLevel data) s = .next { s with apu := { s.apu with dmc := { d with
      sh := { d.sh with sh1 := data }, level := data.toNat % 128 } } } ∧
    exec (.wrDmcAddr data) s = .next { s with apu := { s.apu with dmc := { d with
      sh := { d.sh with sh2 := data }
      sampleAddress := BitVec.ofNat 16 (s.cfg.dmcSampleAddress.apply data.toNat) } } } ∧
    exec (.wrDmcLen data) s = .next { s with apu := { s.apu with dmc := { d with
      sh := { d.sh with sh3 := data }, sampleLength := s.cfg.dmcSampleLength.apply data.toNat } } }

/-- Rules R180, R268, R269, R333: the five enables. -/
def Obligations.EnableWriteResetsChangedCountersAndDmc : Prop :=
  ∀ (data : Byte) (s : State),
    let d := data.toNat
    let enabled (l : LengthCounter) (e : Bool) : LengthCounter :=
      if e = l.enabled then l else { enabled := e, remaining := 0, configuredLength := 0 }
    let a := s.apu
    exec (.wrStatus data) s = .next { s with apu := { a with
      p1 := { a.p1 with len := enabled a.p1.len (d % 2 == 1) }
      p2 := { a.p2 with len := enabled a.p2.len (d / 2 % 2 == 1) }
      tri := { a.tri with len := enabled a.tri.len (d / 4 % 2 == 1) }
      noise := { a.noise with len := enabled a.noise.len (d / 8 % 2 == 1) }
      dmc :=
        if d / 16 % 2 = 1 then
          if a.dmc.bytesRemaining = 0 then
            { a.dmc with curAddress := a.dmc.sampleAddress, bytesRemaining := a.dmc.sampleLength }
          else a.dmc
        else { a.dmc with bytesRemaining := 0, irqLatched := false } } }

/-- Rules R145, R334: every write is a switch; the Timer keeps its position. -/
def Obligations.FrameControlWriteSwitchesMode : Prop :=
  ∀ (data : Byte) (s : State),
    let five := decide (128 ≤ data.toNat)
    exec (.wrFrame data) s = .next { s with apu := { s.apu with fs := {
      mode := if five then .fiveStep else .fourStep
      step := 0
      pending5 := five
      timer := { s.apu.fs.timer with
        period := s.cfg.clampP (s.cfg.frameTotalPeriod / (if five then 5 else 4)) } } } }

/-- Rules R74, R335. -/
def Obligations.UnmappedWritesChangeNothing : Prop :=
  ∀ (data : Byte) (s : State),
    exec (.wrUnmapped14 data) s = .next s ∧ exec (.wrUnmapped16 data) s = .next s ∧
    exec (.wrUnmapped18 data) s = .next s ∧ exec (.wrUnmapped19 data) s = .next s ∧
    exec (.wrUnmapped1A data) s = .next s ∧ exec (.wrUnmapped1B data) s = .next s ∧
    exec (.wrUnmapped1C data) s = .next s ∧ exec (.wrUnmapped1D data) s = .next s ∧
    exec (.wrUnmapped1E data) s = .next s ∧ exec (.wrUnmapped1F data) s = .next s

/-! ## Reads -/

/-- Rules R95, R331: the status byte by the weights of its bits; nothing else changes. -/
def Obligations.StatusReadReturnsRemainingBits : Prop :=
  ∀ s : State,
    let bit (b : Bool) : Nat := if b then 1 else 0
    let a := s.apu
    exec .rdStatus s = .next { s with reads := s.reads ++ [BitVec.ofNat 8
      (bit (decide (0 < a.p1.len.remaining)) + 2 * bit (decide (0 < a.p2.len.remaining))
        + 4 * bit (decide (0 < a.tri.len.remaining)) + 8 * bit (decide (0 < a.noise.len.remaining))
        + 16 * bit (decide (0 < a.dmc.bytesRemaining)))] }

/-- Rules R73, R336: a read of any offset but 0x15 returns some byte and changes no state of the block (the model counts
the draw, log entry 5). -/
def Obligations.OpenBusReadsReturnAByteAndChangeNothing : Prop :=
  ∀ (i : Instr) (s : State),
    i ∈ [Instr.rdOpen00, .rdOpen01, .rdOpen02, .rdOpen03, .rdOpen04, .rdOpen05, .rdOpen06, .rdOpen07,
      .rdOpen08, .rdOpen09, .rdOpen0A, .rdOpen0B, .rdOpen0C, .rdOpen0D, .rdOpen0E, .rdOpen0F,
      .rdOpen10, .rdOpen11, .rdOpen12, .rdOpen13, .rdOpen14, .rdOpen16, .rdOpen17, .rdOpen18,
      .rdOpen19, .rdOpen1A, .rdOpen1B, .rdOpen1C, .rdOpen1D, .rdOpen1E, .rdOpen1F] →
    ∃ b : Byte, exec i s = .next { s with reads := s.reads ++ [b], openBusDraws := s.openBusDraws + 1 }

/-! ## ADVANCE and the sample step -/

/-- Rule R332: `ADVANCE` completes in every good state; it runs one sample step for each tick of the sample clock and
pushes one sample for each. -/
def Obligations.AdvanceRunsOneSampleStepPerTick : Prop :=
  ∀ (n : Nat) (s : State), s.Inv →
    let clock := (s.apu.sampleClock.advance s.cfg (n : Q)).1
    let k := (s.apu.sampleClock.advance s.cfg (n : Q)).2
    ∃ t, exec (.adv n) s = .next t ∧
      sampleSteps k { s with apu := { s.apu with sampleClock := clock } } = .ok t ∧
      t.apu.sampleClock = clock ∧ t.samples.length = s.samples.length + k

/-- Rules R15, R60, R130: what `ADVANCE` leaves alone: the configuration, the bus memory, the host's queue and read
results, and every field that only register writes set, the shadow bytes among them. -/
def Obligations.AdvanceFrame : Prop :=
  ∀ (n : Nat) (s t : State), exec (.adv n) s = .next t →
    let keepsPulse (p q : PulseChannel) : Prop :=
      q.sh = p.sh ∧ q.duty = p.duty ∧ q.halt = p.halt ∧ q.len.enabled = p.len.enabled ∧
      q.len.configuredLength = p.len.configuredLength ∧ q.env.loop = p.env.loop ∧
      q.env.constant = p.env.constant ∧ q.env.param = p.env.param ∧
      q.sweep = { p.sweep with counter := q.sweep.counter, reload := q.sweep.reload }
    t.config = s.config ∧ t.pending = s.pending ∧ t.reads = s.reads ∧ t.openBusDraws = s.openBusDraws ∧
    t.bus.mem = s.bus.mem ∧ s.bus.log <+: t.bus.log ∧ s.samples <+: t.samples ∧
    t.apu.fs.mode = s.apu.fs.mode ∧ t.apu.fs.timer.period = s.apu.fs.timer.period ∧
    t.apu.sampleClock.period = s.apu.sampleClock.period ∧
    keepsPulse s.apu.p1 t.apu.p1 ∧ keepsPulse s.apu.p2 t.apu.p2 ∧
    t.apu.tri = { s.apu.tri with
      timer := { s.apu.tri.timer with position := t.apu.tri.timer.position }
      step := t.apu.tri.step, linear := t.apu.tri.linear, linReload := t.apu.tri.linReload
      len := { s.apu.tri.len with remaining := t.apu.tri.len.remaining } } ∧
    t.apu.noise = { s.apu.noise with
      timer := { s.apu.noise.timer with position := t.apu.noise.timer.position }
      lfsr := t.apu.noise.lfsr
      env := { s.apu.noise.env with
        start := t.apu.noise.env.start, divider := t.apu.noise.env.divider
        decayLevel := t.apu.noise.env.decayLevel }
      len := { s.apu.noise.len with remaining := t.apu.noise.len.remaining } } ∧
    t.apu.dmc = { s.apu.dmc with
      timer := { s.apu.dmc.timer with position := t.apu.dmc.timer.position }
      curAddress := t.apu.dmc.curAddress, bytesRemaining := t.apu.dmc.bytesRemaining
      buffer := t.apu.dmc.buffer, shiftReg := t.apu.dmc.shiftReg, bitsLeft := t.apu.dmc.bitsLeft
      silence := t.apu.dmc.silence, level := t.apu.dmc.level, irqLatched := t.apu.dmc.irqLatched }

/-- Rule R310: no operation but `ADVANCE` moves a Timer's position, emits a sample, or reads the bus. -/
def Obligations.OnlyAdvanceMovesTime : Prop :=
  ∀ (i : Instr) (s t : State), (∀ n, i ≠ .adv n) → exec i s = .next t →
    t.samples = s.samples ∧ t.bus = s.bus ∧ t.config = s.config ∧ t.apu.filt = s.apu.filt ∧
    t.apu.sampleClock = s.apu.sampleClock ∧
    t.apu.fs.timer.position = s.apu.fs.timer.position ∧
    t.apu.p1.timer.position = s.apu.p1.timer.position ∧
    t.apu.p2.timer.position = s.apu.p2.timer.position ∧
    t.apu.tri.timer.position = s.apu.tri.timer.position ∧
    t.apu.noise.timer.position = s.apu.noise.timer.position ∧
    t.apu.dmc.timer.position = s.apu.dmc.timer.position

/-- Rule R131, the chunking law: `ADVANCE a` then `ADVANCE b` is `ADVANCE (a + b)`, state and samples. -/
def Obligations.AdvanceChunkingLaw : Prop :=
  ∀ (a b : Nat) (s s₁ : State), s.Inv → exec (.adv a) s = .next s₁ →
    exec (.adv b) s₁ = exec (.adv (a + b)) s

/-- Rule R391: a block whose sample clock stands as constructed, its period and position CPS (rule R128), has pushed exactly
`floor(T / CPS)` samples after T cycles, a minimum period above CPS or not; only where the `disable` policy makes the clock
inert (rules R121, R122) does it push nothing. -/
def Obligations.SamplesAfterCycles : Prop :=
  ∀ (T : Nat) (s t : State), s.Inv → s.apu.sampleClock = ⟨s.cfg.cps, s.cfg.cps⟩ → exec (.adv T) s = .next t →
    (s.cfg.lowPeriodPolicy = .clamp ∨ (s.cfg.timerMinPeriod : Q) ≤ s.cfg.cps →
      (t.samples.length : Int) = s.samples.length + ⌊(T : Q) / s.cfg.cps⌋) ∧
    (s.cfg.lowPeriodPolicy = .disable → s.cfg.cps < (s.cfg.timerMinPeriod : Q) → t.samples = s.samples)

/-- Rules R127, R130: no channel reads another's state: a channel after a sample step depends on the configuration, the
frame sequencer and itself alone (the DMC on the bus too). -/
def Obligations.ChannelsDoNotReadEachOther : Prop :=
  ∀ s₁ s₂ t₁ t₂ : State, s₁.cfg = s₂.cfg → s₁.apu.fs = s₂.apu.fs →
    sampleStep s₁ = .ok t₁ → sampleStep s₂ = .ok t₂ →
    (s₁.apu.p1 = s₂.apu.p1 → t₁.apu.p1 = t₂.apu.p1) ∧
    (s₁.apu.p2 = s₂.apu.p2 → t₁.apu.p2 = t₂.apu.p2) ∧
    (s₁.apu.tri = s₂.apu.tri → t₁.apu.tri = t₂.apu.tri) ∧
    (s₁.apu.noise = s₂.apu.noise → t₁.apu.noise = t₂.apu.noise) ∧
    (s₁.apu.dmc = s₂.apu.dmc → s₁.bus = s₂.bus → t₁.apu.dmc = t₂.apu.dmc ∧ t₁.bus = t₂.bus)

/-- Rules R130, R294 to R298: a sample step mixes the five amplitudes of its end, takes the mix through the low-pass and
the DC-blocking stage once each, and pushes that one output. -/
def Obligations.SampleStepFiltersTheMixAndEmits : Prop :=
  ∀ s t : State, sampleStep s = .ok t →
    ∃ sq1 sq2 tri : Nat, t.apu.p1.amp s.cfg = .ok sq1 ∧ t.apu.p2.amp s.cfg = .ok sq2 ∧ t.apu.tri.amp = .ok tri ∧
      let x := mix sq1 sq2 tri t.apu.noise.amp t.apu.dmc.amp
      let lp := s.apu.filt.lp.add (s.cfg.lpfAlpha.mul (x.sub s.apu.filt.lp))
      let dc := (s.cfg.hpfCoeff.mul s.apu.filt.dc).add (((F64.ofNat 1).sub s.cfg.hpfCoeff).mul lp)
      t.apu.filt = ⟨lp, dc⟩ ∧ t.samples = s.samples ++ [lp.sub dc]

/-! ## Timer -/

/-- Rule R121: the period policy and what `set_period` keeps. -/
def Obligations.PeriodPolicyClampsOrStores : Prop :=
  ∀ (c : Config) (t : Timer) (p : Q),
    (t.setPeriod c p).position = t.position ∧
    (c.lowPeriodPolicy = .clamp →
      (t.setPeriod c p).period = max p (c.timerMinPeriod : Q) ∧ ((t.setPeriod c p).inert c = false)) ∧
    (c.lowPeriodPolicy = .disable →
      (t.setPeriod c p).period = p ∧ ((t.setPeriod c p).inert c = true ↔ p < (c.timerMinPeriod : Q)))

/-- Rules R122, R126: the ticks of an advance are the least number that brings the position above 0; an inert timer does
not move. -/
def Obligations.TimerAdvanceCountsTheLeastTicks : Prop :=
  ∀ (c : Config) (t : Timer) (n : Q), 0 ≤ n →
    (t.inert c = true → t.advance c n = (t, 0)) ∧
    (t.inert c = false → 0 < t.period →
      let t' := (t.advance c n).1
      let k := (t.advance c n).2
      t'.period = t.period ∧ t'.position = t.position - n + (k : Q) * t.period ∧ 0 < t'.position ∧
      (∀ j : Nat, j < k → t.position - n + (j : Q) * t.period ≤ 0) ∧ (0 < k → t'.position ≤ t.period))

/-- Rule R123: the closed form equals the source's loop, for every state and every `n >= 0`. -/
def Obligations.TimerClosedFormIsTheSourceLoop : Prop :=
  ∀ (c : Config) (t : Timer) (n : Q), t.inert c = false → 0 < t.period → 0 ≤ n →
    ∀ fuel, (t.advance c n).2 ≤ fuel →
      timerLoop t.period fuel (t.position - n) 0 = ((t.advance c n).1.position, (t.advance c n).2)

/-- Rule R125: the chunking law of one timer. -/
def Obligations.TimerChunkingLaw : Prop :=
  ∀ (c : Config) (t : Timer) (a b : Q), 0 ≤ a → 0 ≤ b → t.inert c = true ∨ 0 < t.period →
    let first := t.advance c a
    let second := first.1.advance c b
    t.advance c (a + b) = (second.1, first.2 + second.2)

/-- Rules R124, R386: after a period change the old position drains first, and the ticks after it are the new period
apart. -/
def Obligations.PeriodChangeWaitsForTheOldPosition : Prop :=
  ∀ (c : Config) (t : Timer) (p n : Q), 0 < t.position → 0 ≤ n →
    (t.setPeriod c p).inert c = false → 0 < (t.setPeriod c p).period →
    let t' := t.setPeriod c p
    (n < t.position → t'.advance c n = ({ t' with position := t.position - n }, 0)) ∧
    (t.position ≤ n → ((t'.advance c n).2 : Int) = ⌊(n - t.position) / t'.period⌋ + 1)

/-! ## Frame sequencer -/

/-- Rules R105, R142, R143, R146: `k` ticks return the `k` table entries from the current step on, in order, and leave
the step `k` further, modulo the mode's number of steps. -/
def Obligations.FrameSequencerReturnsEntriesInOrder : Prop :=
  ∀ (c : Config) (fs : FrameSequencer) (cycles : Q), fs.step < fs.mode.steps → fs.pending5 = false →
    let k := (fs.timer.advance c cycles).2
    ∃ ticks : List FrameTick,
      fs.advance c cycles = .ok ({ fs with
        timer := (fs.timer.advance c cycles).1, step := (fs.step + k) % fs.mode.steps }, ticks) ∧
      ticks.length = k ∧
      ∀ i, i < k → ticks[i]? =
        (match fs.mode with
          | .fourStep => [FrameTick.mk true true, ⟨true, false⟩, ⟨true, true⟩, ⟨true, false⟩]
          | .fiveStep => [⟨true, true⟩, ⟨true, false⟩, ⟨true, true⟩, ⟨false, false⟩, ⟨true, true⟩])[
            (fs.step + i) % (match fs.mode with | .fourStep => 4 | .fiveStep => 5)]?

/-- Rule R144: with the override pending, the next advance returns exactly one quarter and half tick, whether or not the
Timer ticks, clears the flag, and still moves the Timer and the step. -/
def Obligations.FiveStepOverrideFiresOnce : Prop :=
  ∀ (c : Config) (fs : FrameSequencer) (cycles : Q), fs.step < fs.mode.steps → fs.pending5 = true →
    fs.advance c cycles = .ok ({ fs with
      timer := (fs.timer.advance c cycles).1
      step := (fs.step + (fs.timer.advance c cycles).2) % fs.mode.steps
      pending5 := false }, [⟨true, true⟩])

/-- Rule R360: a step outside the mode's range is the fatal fault. -/
def Obligations.FrameStepOutOfRangeIsFatal : Prop :=
  ∀ (c : Config) (fs : FrameSequencer) (cycles : Q), fs.mode.steps ≤ fs.step →
    fs.advance c cycles = .error (.indexOutOfRange (.frameSteps fs.mode) fs.step)

/-! ## Envelope, sweep, length counter -/

/-- Rules R162, R163, R201, and R247's quarter frame: a quarter-frame tick of a pulse channel or the noise channel is one of
its envelope and nothing else, and what those ticks do to an envelope. After a restart the level falls by one every `param + 1` ticks
from 15, to 0 or, looping, round to 15 again; without one the divider counts down to 0 and the tick after that reloads
it and moves the level; nothing else changes. -/
def Obligations.EnvelopeDecaysAfterRestart : Prop :=
  (∀ (p : PulseChannel) (n : NoiseChannel), p.onQuarterFrame = { p with env := p.env.advance } ∧
    n.onQuarterFrame = { n with env := n.env.advance }) ∧
  ∀ e : Envelope,
    e.level = (if e.constant then e.param else e.decayLevel) ∧
    (e.start = true → ∀ j : Nat,
      Envelope.advance^[j + 1] e = { e with
        start := false
        divider := e.param - j % (e.param + 1)
        decayLevel := if e.loop then 15 - j / (e.param + 1) % 16 else 15 - j / (e.param + 1) }) ∧
    (e.start = false →
      (∀ j : Nat, j ≤ e.divider → Envelope.advance^[j] e = { e with divider := e.divider - j }) ∧
      Envelope.advance^[e.divider + 1] e = { e with
        divider := e.param
        decayLevel := if 0 < e.decayLevel then e.decayLevel - 1 else if e.loop then 15 else 0 })

/-- Rules R171 to R174, R202: one half-frame tick of a pulse channel with an integer period `cur`: its sweep, and its length
counter by its own halt flag; the shadow bytes are not touched. -/
def Obligations.SweepHalfFrameTick : Prop :=
  ∀ (c : Config) (p : PulseChannel) (cur : Nat), p.timer.period = (cur : Q) →
    let sw := p.sweep
    let delta := cur / 2 ^ sw.shift
    let target : Int :=
      if sw.negate = false then (cur : Int) + delta
      else if sw.convention = .ones then (cur : Int) - delta - 1 else (cur : Int) - delta
    let mute := cur < 16 ∨ 0xFFE < target
    let q := p.onHalfFrame c
    (p.muted = true ↔ mute) ∧
    (sw.reload = true → q.sweep = { sw with counter := sw.dividerPeriod, reload := false } ∧ q.timer = p.timer) ∧
    (sw.reload = false → sw.counter ≠ 0 →
      q.sweep = { sw with counter := sw.counter - 1 } ∧ q.timer = p.timer) ∧
    (sw.reload = false → sw.counter = 0 →
      q.sweep = { sw with counter := sw.dividerPeriod } ∧
      (sw.enabled = true → ¬mute → sw.shift ≠ 0 →
        q.timer = { p.timer with period := c.clampP (target : Q) }) ∧
      (sw.enabled = false ∨ mute ∨ sw.shift = 0 → q.timer = p.timer)) ∧
    q.len = (if p.halt then p.len else { p.len with remaining := p.len.remaining - 1 }) ∧
    q.sh = p.sh ∧ q.duty = p.duty ∧ q.step = p.step ∧ q.halt = p.halt ∧ q.env = p.env

/-- Rules R182, R184: `n` half-frame ticks of a length counter, and the output gate after them. Rules R202, R222, R247: `n`
half-frame ticks of a channel are that many of its own counter, with the pulse's or the noise channel's `halt` or the
triangle's `control`; they change nothing else of the triangle or the noise channel. -/
def Obligations.LengthCounterCountsDownUnlessHalted : Prop :=
  ∀ n : Nat,
    let after (l : LengthCounter) (halt : Bool) : LengthCounter :=
      if halt then l else { l with remaining := l.remaining - n }
    (∀ (l : LengthCounter) (halt : Bool), (fun l : LengthCounter => l.clock halt)^[n] l = after l halt ∧
      ((after l halt).gate halt = true ↔ halt = true ∨ n < l.remaining)) ∧
    (∀ (c : Config) (p : PulseChannel),
      ((PulseChannel.onHalfFrame c)^[n] p).len = after p.len p.halt ∧
      ((PulseChannel.onHalfFrame c)^[n] p).halt = p.halt) ∧
    (∀ t : TriangleChannel, TriangleChannel.onHalfFrame^[n] t = { t with len := after t.len t.control }) ∧
    (∀ ch : NoiseChannel, NoiseChannel.onHalfFrame^[n] ch = { ch with len := after ch.len ch.halt })

/-! ## Channels -/

/-- Rules R204 to R206: a pulse channel's amplitude: 0 when muted or gated, else the duty bit times the level. -/
def Obligations.PulseAmplitude : Prop :=
  ∀ (c : Config) (p : PulseChannel), c.WellFormed → p.Ok c →
    ∃ bit : Nat, (c.dutyTable[p.duty]?.bind fun row => row[p.step]?) = some bit ∧ bit ≤ 1 ∧
      p.amp c = .ok (if p.sweep.mute p.timer.cur = true ∨ (p.len.remaining = 0 ∧ p.halt = false) then 0
        else bit * (if p.env.constant then p.env.param else p.env.decayLevel)) ∧
      ∀ a, p.amp c = .ok a → a ≤ 15

/-- Rule R221: `n + 1` quarter-frame ticks of the triangle's linear counter. -/
def Obligations.LinearCounterReloadsAndCountsDown : Prop :=
  ∀ (t : TriangleChannel) (n : Nat),
    let t' := TriangleChannel.onQuarterFrame^[n + 1] t
    (t.linReload = false → t' = { t with linear := t.linear - (n + 1) }) ∧
    (t.linReload = true → t.control = false → t' = { t with linear := t.linLength - n, linReload := false }) ∧
    (t.linReload = true → t.control = true → t' = { t with linear := t.linLength })

/-- Rules R223, R225: with `u` the triangle after the frame work of a sample step and `n` its ticks: if both counters of `u`
are above 0 the step moves by `n` modulo 32; if one is 0 the step, and so the amplitude, stays as it was, whatever
control is. A length counter of 0, or a linear counter of 0 with no reload armed, is still so after any frame work. -/
def Obligations.TriangleFreezesAndHoldsItsLevel : Prop :=
  ∀ (c : Config) (ticks : List FrameTick) (t : TriangleChannel),
    let u := applyFrames TriangleChannel.onQuarterFrame TriangleChannel.onHalfFrame ticks t
    let n := (u.timer.advance c c.cps).2
    let after := t.sampleWork c ticks
    (0 < u.linear → 0 < u.len.remaining → after.step = (t.step + n) % 32) ∧
    (u.linear = 0 ∨ u.len.remaining = 0 → after.step = t.step ∧ after.amp = t.amp) ∧
    (t.len.remaining = 0 → u.len.remaining = 0) ∧ (t.linear = 0 → t.linReload = false → u.linear = 0)

/-- Rule R241: an LFSR step by the bits of the register, and it never reaches the all-zero register from another. -/
def Obligations.LfsrStepShiftsInTheTapXor : Prop :=
  ∀ (mode : Bool) (l : BitVec 15),
    (∀ i, i < 14 → (lfsrStep mode l).getLsbD i = l.getLsbD (i + 1)) ∧
    (lfsrStep mode l).getLsbD 14 = Bool.xor (l.getLsbD 0) (if mode then l.getLsbD 6 else l.getLsbD 1) ∧
    (l ≠ 0 → lfsrStep mode l ≠ 0)

/-- Rule R243: the output is bit 0 of the register; from 1 the register repeats after exactly 93 steps in the short mode
and exactly 32767 in the long one, and bit 0 is 1 after exactly 16384 of those 32767 steps. -/
def Obligations.LfsrPeriods : Prop :=
  (∀ n : NoiseChannel, n.noiseOut = if n.lfsr.getLsbD 0 then 1 else 0) ∧
  lfsrSteps true 93 1 = 1 ∧ (∀ k, 0 < k → k < 93 → lfsrSteps true k 1 ≠ 1) ∧
  lfsrSteps false 32767 1 = 1 ∧ (∀ k, 0 < k → k < 32767 → lfsrSteps false k 1 ≠ 1) ∧
  (List.range 32767).countP (fun k => (lfsrSteps false (k + 1) 1).getLsbD 0) = 16384

/-- Rules R224, R225, R243 to R245, R273: the triangle's amplitude is the ramp 15 down to 0 and 0 up to 15; the noise
channel's is 0 when gated, else bit 0 of the register times the level; the DMC's is its level. -/
def Obligations.TriangleNoiseAndDmcAmplitudes : Prop :=
  ∀ (c : Config) (t : TriangleChannel) (n : NoiseChannel) (d : DmcChannel), t.Ok c → n.Ok c → d.Ok c →
    t.amp = .ok (if t.step < 16 then 15 - t.step else t.step - 16) ∧
    n.amp = (if n.len.remaining = 0 ∧ n.halt = false then 0
      else (if n.lfsr.getLsbD 0 then 1 else 0) * (if n.env.constant then n.env.param else n.env.decayLevel)) ∧
    n.amp ≤ 15 ∧ d.amp = d.level ∧ d.amp ≤ 127

/-! ## DMC -/

/-- Rules R262, R263, R264: the memory unit of one tick. The fetched byte is what the bus answers at the current address
(rule R63), the address after 0xFFFF is 0x8000, and the last byte restarts the sample or latches the interrupt. A read
leaves the memory as it is (rule R15); that it is logged is the model's own record (log entry 6). -/
def Obligations.DmcMemoryUnitFetches : Prop :=
  ∀ (d : DmcChannel) (bus : Bus),
    (d.buffer ≠ none ∨ d.bytesRemaining = 0 → d.memoryUnit bus = (d, bus)) ∧
    (d.buffer = none → 0 < d.bytesRemaining →
      let next : Addr := if d.curAddress = 0xFFFF#16 then 0x8000#16 else d.curAddress + 1
      (d.memoryUnit bus).2.mem = bus.mem ∧ (d.memoryUnit bus).2.log = bus.log ++ [d.curAddress] ∧
      (d.memoryUnit bus).1 =
        if d.bytesRemaining = 1 then
          if d.loop then { d with
            buffer := some (bus.byteAt d.curAddress)
            curAddress := d.sampleAddress
            bytesRemaining := d.sampleLength }
          else { d with
            buffer := some (bus.byteAt d.curAddress)
            curAddress := next
            bytesRemaining := 0
            irqLatched := d.irqLatched || d.irqEnabled }
        else { d with
          buffer := some (bus.byteAt d.curAddress)
          curAddress := next
          bytesRemaining := d.bytesRemaining - 1 })

/-- Rules R66, R265, R266: eight output ticks from a byte boundary play the loaded byte, bit 0 first, each bit moving the
level by the two formulas; a silent unit keeps its level through the same eight ticks. Then the buffered byte is
loaded, or the unit is silent. -/
def Obligations.DmcPlaysAByteLeastBitFirst : Prop :=
  ∀ (d : DmcChannel), d.bitsLeft = 8 →
    let d' := DmcChannel.outputUnit^[8] d
    let delta (level i : Nat) : Nat :=
      if d.shiftReg.getLsbD i then min (level + 2) 125 else max (level - 2) 2
    d'.level = (if d.silence then d.level else [0, 1, 2, 3, 4, 5, 6, 7].foldl delta d.level) ∧
    (∀ k, k < 8 → (DmcChannel.outputUnit^[k] d).bitsLeft = 8 - k ∧
      (DmcChannel.outputUnit^[k] d).silence = d.silence ∧ (DmcChannel.outputUnit^[k] d).buffer = d.buffer) ∧
    d'.bitsLeft = 8 ∧ d'.buffer = none ∧
    d'.silence = d.buffer.isNone ∧ (∀ b, d.buffer = some b → d'.shiftReg = b) ∧
    d'.curAddress = d.curAddress ∧ d'.bytesRemaining = d.bytesRemaining ∧ d'.irqLatched = d.irqLatched

/-- Rules R71, R75: a store the host makes before an operation is what the DMC then reads at that address, and every other
address reads as before. -/
def Obligations.HostStoreIsSeenByTheDmc : Prop :=
  ∀ (s : State) (a : Addr) (b : Byte),
    (s.hostStore a b).bus.byteAt a = b ∧
    (∀ a' : Addr, a' ≠ a → (s.hostStore a b).bus.byteAt a' = s.bus.byteAt a') ∧
    (Memory.wf s.bus.mem = true → Memory.wf (s.hostStore a b).bus.mem = true) ∧
    (s.hostStore a b).apu = s.apu

/-! ## The interrupt -/

/-- Rules R264, R364: the interrupt is latched only inside an `ADVANCE`, of a sample that does not loop, with the
interrupt enabled, bytes still to fetch before and none after: at the fetch that ends the sample. -/
def Obligations.IrqIsSetOnlyByTheEndOfASample : Prop :=
  ∀ (i : Instr) (s t : State), exec i s = .next t → s.irqLine = false → t.irqLine = true →
    (∃ n, i = .adv n) ∧ s.apu.dmc.loop = false ∧ s.apu.dmc.irqEnabled = true ∧ 0 < s.apu.dmc.bytesRemaining ∧
    t.apu.dmc.bytesRemaining = 0

/-- Rule R365: the interrupt is cleared by exactly two writes: 0x15 with bit 4 = 0, and 0x10 with bit 7 = 0. -/
def Obligations.IrqIsClearedByExactlyTwoWrites : Prop :=
  ∀ (i : Instr) (s t : State), exec i s = .next t → s.irqLine = true →
    (t.irqLine = false ↔
      ∃ data : Byte, (i = .wrStatus data ∧ data.toNat / 16 % 2 = 0) ∨ (i = .wrDmcCtrl data ∧ data.toNat < 128))

/-! ## Mixer and filters -/

/-- Rule R14, with IEEE 754's own text as the model takes it (log entry 24): rounding to binary64: the result is finite within the range and no finite datum is nearer; of two equally
near ones the one with an even last bit is taken. -/
def Obligations.RoundingIsToTheNearestEven : Prop :=
  ∀ (z : Bool) (q : Q), |q| ≤ (F64.mk 0x7FEFFFFFFFFFFFFF#64).toRat →
    (F64.round z q).isFinite = true ∧
    ∀ y : F64, y.isFinite = true →
      |(F64.round z q).toRat - q| ≤ |y.toRat - q| ∧
      (y.toRat ≠ (F64.round z q).toRat → |y.toRat - q| = |(F64.round z q).toRat - q| →
        (F64.round z q).bits.getLsbD 0 = false)

/-- Rules R291, R292, R293: the mixer's groups and their sum stay in the stated ranges for all amplitudes in theirs, and
silence mixes to `+0.0`. -/
def Obligations.MixerRanges : Prop :=
  ∀ sq1 sq2 tri noise dmc : Nat, sq1 ≤ 15 → sq2 ≤ 15 → tri ≤ 15 → noise ≤ 15 → dmc ≤ 127 →
    ((pulseOut sq1 sq2).isFinite = true ∧ 0 ≤ (pulseOut sq1 sq2).toRat ∧
      (pulseOut sq1 sq2).toRat < 2585 / 10000) ∧
    ((tndOut tri noise dmc).isFinite = true ∧ 0 ≤ (tndOut tri noise dmc).toRat ∧
      (tndOut tri noise dmc).toRat < 7416 / 10000) ∧
    ((mix sq1 sq2 tri noise dmc).isFinite = true ∧ 0 ≤ (mix sq1 sq2 tri noise dmc).toRat ∧
      (mix sq1 sq2 tri noise dmc).toRat < 1) ∧
    mix 0 0 0 0 0 = ⟨0x0000000000000000#64⟩

/-! ## Whole-machine rules and invariants -/

/-- Rule R361: no good state steps into the fatal fault, and every operation of such a state completes. -/
def Obligations.NoGoodStateReachesFatal : Prop :=
  ∀ s : State, s.Inv →
    (∀ f, step s ≠ .fault f) ∧ ∀ i : Instr, ∃ t, exec i s = .next t

/-- Rule R46: every step keeps the invariant. -/
def Obligations.EveryStepKeepsTheRanges : Prop :=
  ∀ s t : State, s.Inv → step s = .next t → t.Inv

/-- Rules R11, R380: construction with an admitted configuration gives a block with it that is in range, agrees with its
zero shadow bytes (rule R44) and has a finite filter state; every other configuration is refused. Its sample clock has
period and position CPS and its frame sequencer `FRAME_TOTAL_PERIOD / 4`, as rules R24, R44 and R128 write them, whatever
the minimum period (where rule R120 would clamp, log entry 10). Admitted is what `Config.WellFormed` says: rule R11, and the
sizes and ranges of the parameters' types (log entry 13). The default configuration is admitted (its sample rate is the
model's choice, log entry 2). -/
def Obligations.ConstructionMeetsTheInvariants : Prop :=
  (∀ c : Config,
    (c.WellFormed → ∃ s, State.construct c = .next s ∧ s.cfg = c ∧ s.Inv ∧ s.MatchesShadow ∧ s.SamplesFinite ∧
      s.apu.sampleClock = ⟨c.cps, c.cps⟩ ∧ s.apu.fs.timer = ⟨c.frameTotalPeriod / 4, c.frameTotalPeriod / 4⟩) ∧
    (¬c.WellFormed → State.construct c = .refused .invalidConfig)) ∧
  Config.default.WellFormed ∧ State.construct Config.default = .next State.reset ∧ ∀ s : State, s.cfg.WellFormed

/-- Rules R22, R24, R27, R98, R128, R141, R145, R275: every step keeps the derived fields in agreement with the shadow bytes, and the
fixed periods and conventions as built. -/
def Obligations.EveryStepKeepsFieldsMatchingShadowBytes : Prop :=
  ∀ s t : State, s.MatchesShadow → step s = .next t → t.MatchesShadow

/-- Rule R64: under a configuration whose sample addresses lie in the upper half, every address the DMC reads does; the
default configuration is one. -/
def Obligations.DmcReadsStayInTheUpperHalf : Prop :=
  (∀ s t : State, s.DmcInUpperHalf → step s = .next t → t.DmcInUpperHalf) ∧ State.reset.DmcInUpperHalf

/-- Rule R362 (c): in a good state with finite filter state, every step keeps the filter state and every sample finite and
in range. -/
def Obligations.EveryStepKeepsSamplesFinite : Prop :=
  ∀ s t : State, s.Inv → s.SamplesFinite → step s = .next t → t.SamplesFinite

/-- Rules R44, R45, R380: every field of the newly reset block under the default configuration (the sample clock's period is
by the sample rate 44100, the model's choice, log entry 2), and what is seen of it: every status bit 0, the IRQ line low, no
sample yet, and the amplitudes 0, 0, 15, 0, 0. -/
def Obligations.ResetStateAsObserved : Prop :=
  let len : LengthCounter := ⟨false, 0, 0⟩
  let env : Envelope := ⟨false, 0, 0, false, false, 0⟩
  let pulse (convention : SweepConvention) : PulseChannel :=
    ⟨⟨0x00, 0x00, 0x00, 0x00⟩, ⟨2, 2⟩, 0, 0, false, env, ⟨0, 0, 0, false, false, false, convention⟩, len⟩
  State.reset.apu = {
    sampleClock := ⟨1789773 / 44100, 1789773 / 44100⟩
    fs := ⟨.fourStep, 0, false, ⟨1789773 / 240, 1789773 / 240⟩⟩
    p1 := pulse .ones
    p2 := pulse .twos
    tri := ⟨⟨0x00, 0x00, 0x00, 0x00⟩, ⟨1, 1⟩, 0, 0, 0, false, false, len⟩
    noise := ⟨⟨0x00, 0x00, 0x00, 0x00⟩, ⟨4, 4⟩, 0x0001, false, false, env, len⟩
    dmc := ⟨⟨0x00, 0x00, 0x00, 0x00⟩, ⟨428, 428⟩, 0xC000, 1, 0xC000, 0, none, 0x00, 8, true, 0, false, false, false⟩
    filt := ⟨⟨0x0000000000000000#64⟩, ⟨0x0000000000000000#64⟩⟩ } ∧
  State.reset.apu.statusByte = 0x00 ∧ State.reset.irqLine = false ∧ State.reset.samples = [] ∧
  State.reset.apu.p1.amp State.reset.cfg = .ok 0 ∧ State.reset.apu.p2.amp State.reset.cfg = .ok 0 ∧
  State.reset.apu.tri.amp = .ok 15 ∧ State.reset.apu.noise.amp = 0 ∧ State.reset.apu.dmc.amp = 0

/-! ## The channels' part of a sample step -/

/-- Rule R130: a sample step advances the frame sequencer by CPS and takes every channel through the ticks it returns, in
order and the quarter before the half, then advances the channel's Timer by CPS and runs the `n` ticks it counts: the
pulse step moves by `n` modulo 8 (rule R203), the triangle's by `n` modulo 32 while both its counters are above 0 (rule R223),
the noise register makes `n` steps (rule R242), and the DMC, which has no frame work (rule R276), `n` times its memory unit
and then its output unit (rules R261, R267). The frame work is that of rules R201, R202, R221, R222 and R247. -/
def Obligations.SampleStepAdvancesEveryChannel : Prop :=
  ∀ s t : State, sampleStep s = .ok t →
    let c := s.cfg
    ∃ (fs : FrameSequencer) (ticks : List FrameTick), s.apu.fs.advance c c.cps = .ok (fs, ticks) ∧
      let frames {α : Type} (quarter half : α → α) (channel : α) : α :=
        ticks.foldl (fun ch tick =>
          let ch := if tick.quarter then quarter ch else ch
          if tick.half then half ch else ch) channel
      let pulse (p : PulseChannel) : PulseChannel :=
        let u := frames (fun p => { p with env := p.env.advance })
          (fun p => { p with
            sweep := p.sweep.advance, timer := p.sweep.advanceTimer c p.timer, len := p.len.clock p.halt }) p
        let (timer, n) := u.timer.advance c c.cps
        { u with timer := timer, step := (u.step + n) % 8 }
      let triangle (ch : TriangleChannel) : TriangleChannel :=
        let u := frames TriangleChannel.onQuarterFrame (fun ch => { ch with len := ch.len.clock ch.control }) ch
        let (timer, n) := u.timer.advance c c.cps
        { u with
          timer := timer
          step := if 0 < u.linear ∧ 0 < u.len.remaining then (u.step + n) % 32 else u.step }
      let noise (ch : NoiseChannel) : NoiseChannel :=
        let u := frames (fun ch => { ch with env := ch.env.advance })
          (fun ch => { ch with len := ch.len.clock ch.halt }) ch
        let (timer, n) := u.timer.advance c c.cps
        { u with timer := timer, lfsr := (lfsrStep u.mode)^[n] u.lfsr }
      let dmc (d : DmcChannel) (bus : Bus) : DmcChannel × Bus :=
        let (timer, n) := d.timer.advance c c.cps
        (fun x : DmcChannel × Bus =>
          let (d, bus) := x.1.memoryUnit x.2
          (d.outputUnit, bus))^[n] ({ d with timer := timer }, bus)
      t.apu.fs = fs ∧ t.apu.p1 = pulse s.apu.p1 ∧ t.apu.p2 = pulse s.apu.p2 ∧ t.apu.tri = triangle s.apu.tri ∧
      t.apu.noise = noise s.apu.noise ∧ (t.apu.dmc, t.bus) = dmc s.apu.dmc s.bus ∧
      t.apu.sampleClock = s.apu.sampleClock ∧ t.config = s.config ∧ t.pending = s.pending ∧ t.reads = s.reads ∧
      t.openBusDraws = s.openBusDraws
end

