-- ==== Sys2Proof/Laws/Config.lean ====
section
/-! SUPPORT. The check of a configuration is exactly the constraints of rule R11, and what construction does with it. -/

namespace Sys2Proof

/-- The check says that the configuration is well formed, and nothing else. -/
theorem Config.check_iff (c : Config) : c.check = true ↔ c.WellFormed := by
  simp only [Config.check, Bool.and_eq_true, decide_eq_true_eq, beq_iff_eq, List.all_eq_true, List.mem_range]
  constructor
  · rintro ⟨⟨⟨⟨⟨⟨⟨⟨⟨⟨⟨⟨⟨rate, clock⟩, frame⟩, min⟩, length⟩, noise⟩, dmc⟩, ⟨dutySize, rows⟩, first⟩, pulse, triangle⟩,
      address⟩, len⟩, ⟨hf, h0⟩, h1⟩, ⟨lf, l0⟩, l1⟩, cutoff⟩
    exact ⟨rate, clock, frame, min, length.1, length.2, noise.1, noise.2, dmc.1, dmc.2, dutySize, rows, first,
      ⟨pulse, fun _ _ => trivial⟩, ⟨triangle, fun _ _ => trivial⟩, address, len, ⟨hf, h0, h1⟩, ⟨lf, l0, l1⟩, cutoff⟩
  · intro h
    exact ⟨⟨⟨⟨⟨⟨⟨⟨⟨⟨⟨⟨⟨h.sampleRate, h.cpuClock⟩, h.frameTotal⟩, h.timerMin⟩, h.lengthSize, h.lengthRange⟩,
      h.noiseSize, h.noisePositive⟩, h.dmcRateSize, h.dmcRatePositive⟩, ⟨h.dutySize, h.dutyRows⟩, h.dutyFirst⟩,
      h.pulsePeriodMap.1, h.trianglePeriodMap.1⟩, h.sampleAddressMap⟩, h.sampleLengthMap⟩,
      ⟨h.hpfRange.1, h.hpfRange.2.1⟩, h.hpfRange.2.2⟩, ⟨h.lpfRange.1, h.lpfRange.2.1⟩, h.lpfRange.2.2⟩, h.cutoffRange⟩

theorem AcceptedConfig.wellFormed (c : AcceptedConfig) : c.record.WellFormed := c.record.check_iff.mp c.valid

namespace Machine

/-- No state has a configuration that breaks rule R11. -/
theorem State.cfg_wellFormed (s : State) : s.cfg.WellFormed := s.config.wellFormed

/-- All that construction does with an admitted configuration. -/
theorem State.construct_of_wellFormed {c : Config} (h : c.WellFormed) :
    State.construct c = .next (State.ofConfig ⟨c, c.check_iff.mpr h⟩) :=
  dif_pos _

/-- All that construction does with a configuration that breaks rule R11. -/
theorem State.construct_of_not_wellFormed {c : Config} (h : ¬c.WellFormed) :
    State.construct c = .refused .invalidConfig :=
  dif_neg (mt c.check_iff.mp h)

end Machine

end Sys2Proof
end

