-- ==== Sys2Proof/Laws/Operands.lean ====
section
/-! SUPPORT. Every operand field as arithmetic on the data byte. -/

namespace Sys2Proof.Machine

/-- Bits `i + n - 1` to `i` of a byte, as a number. -/
theorem extractField_eq (d : Byte) (i n : Nat) : (d.extractLsb' i n).toNat = d.toNat / 2 ^ i % 2 ^ n := by
  simp [BitVec.extractLsb'_toNat, Nat.shiftRight_eq_div_pow]

/-- Bit `i` of a byte, by its weight. -/
theorem bitField_eq (d : Byte) (i : Nat) : d.getLsbD i = (d.toNat / 2 ^ i % 2 == 1) := by
  simp [BitVec.getLsbD, Nat.testBit, Nat.shiftRight_eq_div_pow, Nat.one_and_eq_mod_two, bne]
  rcases Nat.mod_two_eq_zero_or_one (d.toNat / 2 ^ i) with h | h <;> simp [h]

/-- The top bit of a byte. -/
theorem topBit_eq (d : Byte) : d.getLsbD 7 = (d.toNat / 128 == 1) := by
  have h := d.isLt
  have e : d.toNat / 128 % 2 = d.toNat / 128 := Nat.mod_eq_of_lt (by omega)
  rw [← e]
  exact bitField_eq d 7

theorem dutyField_eq (d : Byte) : dutyField d = d.toNat / 64 := by
  have h := d.isLt
  exact (extractField_eq d 6 2).trans (Nat.mod_eq_of_lt (by omega))

theorem lengthIndexField_eq (d : Byte) : lengthIndexField d = d.toNat / 8 := by
  have h := d.isLt
  exact (extractField_eq d 3 5).trans (Nat.mod_eq_of_lt (by omega))

theorem paramField_eq (d : Byte) : paramField d = d.toNat % 16 := by simp [paramField]
theorem sweepPeriodField_eq (d : Byte) : sweepPeriodField d = d.toNat / 16 % 8 := extractField_eq d 4 3
theorem sweepShiftField_eq (d : Byte) : sweepShiftField d = d.toNat % 8 := by simp [sweepShiftField]
theorem linLengthField_eq (d : Byte) : linLengthField d = d.toNat % 128 := by simp [linLengthField]
theorem periodIndexField_eq (d : Byte) : periodIndexField d = d.toNat % 16 := by
  simp [periodIndexField]
theorem levelField_eq (d : Byte) : levelField d = d.toNat % 128 := by simp [levelField]
theorem haltLoopField_eq (d : Byte) : haltLoopField d = (d.toNat / 32 % 2 == 1) := bitField_eq d 5
theorem constantField_eq (d : Byte) : constantField d = (d.toNat / 16 % 2 == 1) := bitField_eq d 4
theorem sweepNegateField_eq (d : Byte) : sweepNegateField d = (d.toNat / 8 % 2 == 1) := bitField_eq d 3
theorem loopField_eq (d : Byte) : loopField d = (d.toNat / 64 % 2 == 1) := bitField_eq d 6
theorem enableField_eq (d : Byte) (i : Nat) : enableField d i = (d.toNat / 2 ^ i % 2 == 1) := bitField_eq d i
theorem sweepEnabledField_eq (d : Byte) : sweepEnabledField d = (d.toNat / 128 == 1) := topBit_eq d
theorem controlField_eq (d : Byte) : controlField d = (d.toNat / 128 == 1) := topBit_eq d
theorem noiseModeField_eq (d : Byte) : noiseModeField d = (d.toNat / 128 == 1) := topBit_eq d
theorem irqEnabledField_eq (d : Byte) : irqEnabledField d = (d.toNat / 128 == 1) := topBit_eq d

theorem frameModeField_eq (d : Byte) : frameModeField d = if 128 ≤ d.toNat then .fiveStep else .fourStep := by
  have h := d.isLt
  have e : (d.toNat / 128 == 1) = decide (128 ≤ d.toNat) := by
    rw [Bool.eq_iff_iff, beq_iff_eq, decide_eq_true_iff]
    omega
  simp only [frameModeField, topBit_eq, e, decide_eq_true_eq]

theorem periodValue_eq (sh : Shadow) : periodValue sh = sh.sh3.toNat % 8 * 256 + sh.sh2.toNat := by
  rw [periodValue, BitVec.toNat_append, ← Nat.shiftLeft_add_eq_or_of_lt sh.sh2.isLt, Nat.shiftLeft_eq]
  simp [BitVec.extractLsb'_toNat]

theorem lengthIndexField_lt (d : Byte) : lengthIndexField d < 32 := (d.extractLsb' 3 5).isLt
theorem periodIndexField_lt (d : Byte) : periodIndexField d < 16 := (d.extractLsb' 0 4).isLt
theorem dutyField_lt (d : Byte) : dutyField d < 4 := (d.extractLsb' 6 2).isLt
theorem paramField_le (d : Byte) : paramField d ≤ 15 := Nat.le_of_lt_succ (d.extractLsb' 0 4).isLt
theorem sweepPeriodField_le (d : Byte) : sweepPeriodField d ≤ 7 := Nat.le_of_lt_succ (d.extractLsb' 4 3).isLt
theorem sweepShiftField_le (d : Byte) : sweepShiftField d ≤ 7 := Nat.le_of_lt_succ (d.extractLsb' 0 3).isLt
theorem linLengthField_le (d : Byte) : linLengthField d ≤ 127 := Nat.le_of_lt_succ (d.extractLsb' 0 7).isLt
theorem levelField_le (d : Byte) : levelField d ≤ 127 := Nat.le_of_lt_succ (d.extractLsb' 0 7).isLt

end Sys2Proof.Machine
end

