-- ==== Sys2Proof/Laws/State.lean ====
section
/-! SUPPORT. One lemma per field per update of the state, so that no proof unfolds a record update. -/

namespace Sys2Proof.Machine

/-- The configuration record of an updated state is that of the state. -/
@[simp] theorem State.cfg_mk (config : AcceptedConfig) (apu : Apu) (bus : Bus) (pending : List Transaction)
    (reads : List Byte) (samples : List F64) (openBusDraws : Nat) :
    State.cfg ⟨config, apu, bus, pending, reads, samples, openBusDraws⟩ = config.record := rfl

@[simp] theorem State.ofConfig_config (c : AcceptedConfig) : (State.ofConfig c).config = c := rfl
@[simp] theorem State.ofConfig_apu (c : AcceptedConfig) : (State.ofConfig c).apu = Apu.construct c.record := rfl
@[simp] theorem State.ofConfig_bus (c : AcceptedConfig) : (State.ofConfig c).bus = ⟨[], 0, []⟩ := rfl
@[simp] theorem State.ofConfig_pending (c : AcceptedConfig) : (State.ofConfig c).pending = [] := rfl
@[simp] theorem State.ofConfig_reads (c : AcceptedConfig) : (State.ofConfig c).reads = [] := rfl
@[simp] theorem State.ofConfig_samples (c : AcceptedConfig) : (State.ofConfig c).samples = [] := rfl
@[simp] theorem State.ofConfig_openBusDraws (c : AcceptedConfig) : (State.ofConfig c).openBusDraws = 0 := rfl

@[simp] theorem State.setP1_config (s : State) (v : PulseChannel) : (s.setP1 v).config = s.config := rfl
@[simp] theorem State.setP1_bus (s : State) (v : PulseChannel) : (s.setP1 v).bus = s.bus := rfl
@[simp] theorem State.setP1_pending (s : State) (v : PulseChannel) : (s.setP1 v).pending = s.pending := rfl
@[simp] theorem State.setP1_reads (s : State) (v : PulseChannel) : (s.setP1 v).reads = s.reads := rfl
@[simp] theorem State.setP1_samples (s : State) (v : PulseChannel) : (s.setP1 v).samples = s.samples := rfl
@[simp] theorem State.setP1_openBusDraws (s : State) (v : PulseChannel) : (s.setP1 v).openBusDraws = s.openBusDraws := rfl
@[simp] theorem State.setP1_apu_sampleClock (s : State) (v : PulseChannel) : (s.setP1 v).apu.sampleClock = s.apu.sampleClock := rfl
@[simp] theorem State.setP1_apu_fs (s : State) (v : PulseChannel) : (s.setP1 v).apu.fs = s.apu.fs := rfl
@[simp] theorem State.setP1_apu_p1 (s : State) (v : PulseChannel) : (s.setP1 v).apu.p1 = v := rfl
@[simp] theorem State.setP1_apu_p2 (s : State) (v : PulseChannel) : (s.setP1 v).apu.p2 = s.apu.p2 := rfl
@[simp] theorem State.setP1_apu_tri (s : State) (v : PulseChannel) : (s.setP1 v).apu.tri = s.apu.tri := rfl
@[simp] theorem State.setP1_apu_noise (s : State) (v : PulseChannel) : (s.setP1 v).apu.noise = s.apu.noise := rfl
@[simp] theorem State.setP1_apu_dmc (s : State) (v : PulseChannel) : (s.setP1 v).apu.dmc = s.apu.dmc := rfl
@[simp] theorem State.setP1_apu_filt (s : State) (v : PulseChannel) : (s.setP1 v).apu.filt = s.apu.filt := rfl

@[simp] theorem State.setP2_config (s : State) (v : PulseChannel) : (s.setP2 v).config = s.config := rfl
@[simp] theorem State.setP2_bus (s : State) (v : PulseChannel) : (s.setP2 v).bus = s.bus := rfl
@[simp] theorem State.setP2_pending (s : State) (v : PulseChannel) : (s.setP2 v).pending = s.pending := rfl
@[simp] theorem State.setP2_reads (s : State) (v : PulseChannel) : (s.setP2 v).reads = s.reads := rfl
@[simp] theorem State.setP2_samples (s : State) (v : PulseChannel) : (s.setP2 v).samples = s.samples := rfl
@[simp] theorem State.setP2_openBusDraws (s : State) (v : PulseChannel) : (s.setP2 v).openBusDraws = s.openBusDraws := rfl
@[simp] theorem State.setP2_apu_sampleClock (s : State) (v : PulseChannel) : (s.setP2 v).apu.sampleClock = s.apu.sampleClock := rfl
@[simp] theorem State.setP2_apu_fs (s : State) (v : PulseChannel) : (s.setP2 v).apu.fs = s.apu.fs := rfl
@[simp] theorem State.setP2_apu_p1 (s : State) (v : PulseChannel) : (s.setP2 v).apu.p1 = s.apu.p1 := rfl
@[simp] theorem State.setP2_apu_p2 (s : State) (v : PulseChannel) : (s.setP2 v).apu.p2 = v := rfl
@[simp] theorem State.setP2_apu_tri (s : State) (v : PulseChannel) : (s.setP2 v).apu.tri = s.apu.tri := rfl
@[simp] theorem State.setP2_apu_noise (s : State) (v : PulseChannel) : (s.setP2 v).apu.noise = s.apu.noise := rfl
@[simp] theorem State.setP2_apu_dmc (s : State) (v : PulseChannel) : (s.setP2 v).apu.dmc = s.apu.dmc := rfl
@[simp] theorem State.setP2_apu_filt (s : State) (v : PulseChannel) : (s.setP2 v).apu.filt = s.apu.filt := rfl

@[simp] theorem State.setTri_config (s : State) (v : TriangleChannel) : (s.setTri v).config = s.config := rfl
@[simp] theorem State.setTri_bus (s : State) (v : TriangleChannel) : (s.setTri v).bus = s.bus := rfl
@[simp] theorem State.setTri_pending (s : State) (v : TriangleChannel) : (s.setTri v).pending = s.pending := rfl
@[simp] theorem State.setTri_reads (s : State) (v : TriangleChannel) : (s.setTri v).reads = s.reads := rfl
@[simp] theorem State.setTri_samples (s : State) (v : TriangleChannel) : (s.setTri v).samples = s.samples := rfl
@[simp] theorem State.setTri_openBusDraws (s : State) (v : TriangleChannel) : (s.setTri v).openBusDraws = s.openBusDraws := rfl
@[simp] theorem State.setTri_apu_sampleClock (s : State) (v : TriangleChannel) : (s.setTri v).apu.sampleClock = s.apu.sampleClock := rfl
@[simp] theorem State.setTri_apu_fs (s : State) (v : TriangleChannel) : (s.setTri v).apu.fs = s.apu.fs := rfl
@[simp] theorem State.setTri_apu_p1 (s : State) (v : TriangleChannel) : (s.setTri v).apu.p1 = s.apu.p1 := rfl
@[simp] theorem State.setTri_apu_p2 (s : State) (v : TriangleChannel) : (s.setTri v).apu.p2 = s.apu.p2 := rfl
@[simp] theorem State.setTri_apu_tri (s : State) (v : TriangleChannel) : (s.setTri v).apu.tri = v := rfl
@[simp] theorem State.setTri_apu_noise (s : State) (v : TriangleChannel) : (s.setTri v).apu.noise = s.apu.noise := rfl
@[simp] theorem State.setTri_apu_dmc (s : State) (v : TriangleChannel) : (s.setTri v).apu.dmc = s.apu.dmc := rfl
@[simp] theorem State.setTri_apu_filt (s : State) (v : TriangleChannel) : (s.setTri v).apu.filt = s.apu.filt := rfl

@[simp] theorem State.setNoise_config (s : State) (v : NoiseChannel) : (s.setNoise v).config = s.config := rfl
@[simp] theorem State.setNoise_bus (s : State) (v : NoiseChannel) : (s.setNoise v).bus = s.bus := rfl
@[simp] theorem State.setNoise_pending (s : State) (v : NoiseChannel) : (s.setNoise v).pending = s.pending := rfl
@[simp] theorem State.setNoise_reads (s : State) (v : NoiseChannel) : (s.setNoise v).reads = s.reads := rfl
@[simp] theorem State.setNoise_samples (s : State) (v : NoiseChannel) : (s.setNoise v).samples = s.samples := rfl
@[simp] theorem State.setNoise_openBusDraws (s : State) (v : NoiseChannel) : (s.setNoise v).openBusDraws = s.openBusDraws := rfl
@[simp] theorem State.setNoise_apu_sampleClock (s : State) (v : NoiseChannel) : (s.setNoise v).apu.sampleClock = s.apu.sampleClock := rfl
@[simp] theorem State.setNoise_apu_fs (s : State) (v : NoiseChannel) : (s.setNoise v).apu.fs = s.apu.fs := rfl
@[simp] theorem State.setNoise_apu_p1 (s : State) (v : NoiseChannel) : (s.setNoise v).apu.p1 = s.apu.p1 := rfl
@[simp] theorem State.setNoise_apu_p2 (s : State) (v : NoiseChannel) : (s.setNoise v).apu.p2 = s.apu.p2 := rfl
@[simp] theorem State.setNoise_apu_tri (s : State) (v : NoiseChannel) : (s.setNoise v).apu.tri = s.apu.tri := rfl
@[simp] theorem State.setNoise_apu_noise (s : State) (v : NoiseChannel) : (s.setNoise v).apu.noise = v := rfl
@[simp] theorem State.setNoise_apu_dmc (s : State) (v : NoiseChannel) : (s.setNoise v).apu.dmc = s.apu.dmc := rfl
@[simp] theorem State.setNoise_apu_filt (s : State) (v : NoiseChannel) : (s.setNoise v).apu.filt = s.apu.filt := rfl

@[simp] theorem State.setDmc_config (s : State) (v : DmcChannel) : (s.setDmc v).config = s.config := rfl
@[simp] theorem State.setDmc_bus (s : State) (v : DmcChannel) : (s.setDmc v).bus = s.bus := rfl
@[simp] theorem State.setDmc_pending (s : State) (v : DmcChannel) : (s.setDmc v).pending = s.pending := rfl
@[simp] theorem State.setDmc_reads (s : State) (v : DmcChannel) : (s.setDmc v).reads = s.reads := rfl
@[simp] theorem State.setDmc_samples (s : State) (v : DmcChannel) : (s.setDmc v).samples = s.samples := rfl
@[simp] theorem State.setDmc_openBusDraws (s : State) (v : DmcChannel) : (s.setDmc v).openBusDraws = s.openBusDraws := rfl
@[simp] theorem State.setDmc_apu_sampleClock (s : State) (v : DmcChannel) : (s.setDmc v).apu.sampleClock = s.apu.sampleClock := rfl
@[simp] theorem State.setDmc_apu_fs (s : State) (v : DmcChannel) : (s.setDmc v).apu.fs = s.apu.fs := rfl
@[simp] theorem State.setDmc_apu_p1 (s : State) (v : DmcChannel) : (s.setDmc v).apu.p1 = s.apu.p1 := rfl
@[simp] theorem State.setDmc_apu_p2 (s : State) (v : DmcChannel) : (s.setDmc v).apu.p2 = s.apu.p2 := rfl
@[simp] theorem State.setDmc_apu_tri (s : State) (v : DmcChannel) : (s.setDmc v).apu.tri = s.apu.tri := rfl
@[simp] theorem State.setDmc_apu_noise (s : State) (v : DmcChannel) : (s.setDmc v).apu.noise = s.apu.noise := rfl
@[simp] theorem State.setDmc_apu_dmc (s : State) (v : DmcChannel) : (s.setDmc v).apu.dmc = v := rfl
@[simp] theorem State.setDmc_apu_filt (s : State) (v : DmcChannel) : (s.setDmc v).apu.filt = s.apu.filt := rfl

@[simp] theorem State.setFs_config (s : State) (v : FrameSequencer) : (s.setFs v).config = s.config := rfl
@[simp] theorem State.setFs_bus (s : State) (v : FrameSequencer) : (s.setFs v).bus = s.bus := rfl
@[simp] theorem State.setFs_pending (s : State) (v : FrameSequencer) : (s.setFs v).pending = s.pending := rfl
@[simp] theorem State.setFs_reads (s : State) (v : FrameSequencer) : (s.setFs v).reads = s.reads := rfl
@[simp] theorem State.setFs_samples (s : State) (v : FrameSequencer) : (s.setFs v).samples = s.samples := rfl
@[simp] theorem State.setFs_openBusDraws (s : State) (v : FrameSequencer) : (s.setFs v).openBusDraws = s.openBusDraws := rfl
@[simp] theorem State.setFs_apu_sampleClock (s : State) (v : FrameSequencer) : (s.setFs v).apu.sampleClock = s.apu.sampleClock := rfl
@[simp] theorem State.setFs_apu_fs (s : State) (v : FrameSequencer) : (s.setFs v).apu.fs = v := rfl
@[simp] theorem State.setFs_apu_p1 (s : State) (v : FrameSequencer) : (s.setFs v).apu.p1 = s.apu.p1 := rfl
@[simp] theorem State.setFs_apu_p2 (s : State) (v : FrameSequencer) : (s.setFs v).apu.p2 = s.apu.p2 := rfl
@[simp] theorem State.setFs_apu_tri (s : State) (v : FrameSequencer) : (s.setFs v).apu.tri = s.apu.tri := rfl
@[simp] theorem State.setFs_apu_noise (s : State) (v : FrameSequencer) : (s.setFs v).apu.noise = s.apu.noise := rfl
@[simp] theorem State.setFs_apu_dmc (s : State) (v : FrameSequencer) : (s.setFs v).apu.dmc = s.apu.dmc := rfl
@[simp] theorem State.setFs_apu_filt (s : State) (v : FrameSequencer) : (s.setFs v).apu.filt = s.apu.filt := rfl

@[simp] theorem State.setSampleClock_config (s : State) (v : Timer) : (s.setSampleClock v).config = s.config := rfl
@[simp] theorem State.setSampleClock_bus (s : State) (v : Timer) : (s.setSampleClock v).bus = s.bus := rfl
@[simp] theorem State.setSampleClock_pending (s : State) (v : Timer) : (s.setSampleClock v).pending = s.pending := rfl
@[simp] theorem State.setSampleClock_reads (s : State) (v : Timer) : (s.setSampleClock v).reads = s.reads := rfl
@[simp] theorem State.setSampleClock_samples (s : State) (v : Timer) : (s.setSampleClock v).samples = s.samples := rfl
@[simp] theorem State.setSampleClock_openBusDraws (s : State) (v : Timer) : (s.setSampleClock v).openBusDraws = s.openBusDraws := rfl
@[simp] theorem State.setSampleClock_apu_sampleClock (s : State) (v : Timer) : (s.setSampleClock v).apu.sampleClock = v := rfl
@[simp] theorem State.setSampleClock_apu_fs (s : State) (v : Timer) : (s.setSampleClock v).apu.fs = s.apu.fs := rfl
@[simp] theorem State.setSampleClock_apu_p1 (s : State) (v : Timer) : (s.setSampleClock v).apu.p1 = s.apu.p1 := rfl
@[simp] theorem State.setSampleClock_apu_p2 (s : State) (v : Timer) : (s.setSampleClock v).apu.p2 = s.apu.p2 := rfl
@[simp] theorem State.setSampleClock_apu_tri (s : State) (v : Timer) : (s.setSampleClock v).apu.tri = s.apu.tri := rfl
@[simp] theorem State.setSampleClock_apu_noise (s : State) (v : Timer) : (s.setSampleClock v).apu.noise = s.apu.noise := rfl
@[simp] theorem State.setSampleClock_apu_dmc (s : State) (v : Timer) : (s.setSampleClock v).apu.dmc = s.apu.dmc := rfl
@[simp] theorem State.setSampleClock_apu_filt (s : State) (v : Timer) : (s.setSampleClock v).apu.filt = s.apu.filt := rfl

@[simp] theorem State.returnByte_config (s : State) (b : Byte) : (s.returnByte b).config = s.config := rfl
@[simp] theorem State.returnByte_apu (s : State) (b : Byte) : (s.returnByte b).apu = s.apu := rfl
@[simp] theorem State.returnByte_bus (s : State) (b : Byte) : (s.returnByte b).bus = s.bus := rfl
@[simp] theorem State.returnByte_pending (s : State) (b : Byte) : (s.returnByte b).pending = s.pending := rfl
@[simp] theorem State.returnByte_reads (s : State) (b : Byte) : (s.returnByte b).reads = s.reads ++ [b] := rfl
@[simp] theorem State.returnByte_samples (s : State) (b : Byte) : (s.returnByte b).samples = s.samples := rfl
@[simp] theorem State.returnByte_openBusDraws (s : State) (b : Byte) : (s.returnByte b).openBusDraws = s.openBusDraws := rfl

@[simp] theorem State.issue_config (s : State) (t : Transaction) : (s.issue t).config = s.config := rfl
@[simp] theorem State.issue_apu (s : State) (t : Transaction) : (s.issue t).apu = s.apu := rfl
@[simp] theorem State.issue_bus (s : State) (t : Transaction) : (s.issue t).bus = s.bus := rfl
@[simp] theorem State.issue_pending (s : State) (t : Transaction) : (s.issue t).pending = t :: s.pending := rfl
@[simp] theorem State.issue_reads (s : State) (t : Transaction) : (s.issue t).reads = s.reads := rfl
@[simp] theorem State.issue_samples (s : State) (t : Transaction) : (s.issue t).samples = s.samples := rfl
@[simp] theorem State.issue_openBusDraws (s : State) (t : Transaction) : (s.issue t).openBusDraws = s.openBusDraws := rfl

@[simp] theorem State.hostStore_config (s : State) (a : Addr) (b : Byte) : (s.hostStore a b).config = s.config := rfl
@[simp] theorem State.hostStore_apu (s : State) (a : Addr) (b : Byte) : (s.hostStore a b).apu = s.apu := rfl
@[simp] theorem State.hostStore_bus (s : State) (a : Addr) (b : Byte) : (s.hostStore a b).bus = { s.bus with mem := memWrite s.bus.mem a.toNat b } := rfl
@[simp] theorem State.hostStore_pending (s : State) (a : Addr) (b : Byte) : (s.hostStore a b).pending = s.pending := rfl
@[simp] theorem State.hostStore_reads (s : State) (a : Addr) (b : Byte) : (s.hostStore a b).reads = s.reads := rfl
@[simp] theorem State.hostStore_samples (s : State) (a : Addr) (b : Byte) : (s.hostStore a b).samples = s.samples := rfl
@[simp] theorem State.hostStore_openBusDraws (s : State) (a : Addr) (b : Byte) : (s.hostStore a b).openBusDraws = s.openBusDraws := rfl

@[simp] theorem State.dropPending_config (s : State) : (s.dropPending).config = s.config := rfl
@[simp] theorem State.dropPending_apu (s : State) : (s.dropPending).apu = s.apu := rfl
@[simp] theorem State.dropPending_bus (s : State) : (s.dropPending).bus = s.bus := rfl
@[simp] theorem State.dropPending_pending (s : State) : (s.dropPending).pending = s.pending.tail := rfl
@[simp] theorem State.dropPending_reads (s : State) : (s.dropPending).reads = s.reads := rfl
@[simp] theorem State.dropPending_samples (s : State) : (s.dropPending).samples = s.samples := rfl
@[simp] theorem State.dropPending_openBusDraws (s : State) : (s.dropPending).openBusDraws = s.openBusDraws := rfl

@[simp] theorem Timer.setPeriod_position (c : Config) (t : Timer) (p : Q) :
    (t.setPeriod c p).position = t.position := rfl
@[simp] theorem Timer.setPeriod_period (c : Config) (t : Timer) (p : Q) :
    (t.setPeriod c p).period = c.clampP p := rfl

@[simp] theorem DmcChannel.raiseIrq_irqLatched (d : DmcChannel) : d.raiseIrq.irqLatched = true := rfl
@[simp] theorem DmcChannel.clearIrq_irqLatched (d : DmcChannel) : d.clearIrq.irqLatched = false := rfl

end Sys2Proof.Machine
end

