-- ==== Sys2Proof/Laws/Ops.lean ====
section
/-! SUPPORT. What the shared operations can do: table reads, outcomes, the bus memory and the bus. -/

namespace Sys2Proof.Machine

theorem tableGet_eq_ok {α : Type} {name : TableName} {l : List α} {i : Nat} {v : α} :
    tableGet name l i = .ok v ↔ l[i]? = some v := by
  unfold tableGet
  cases l[i]? <;> simp

theorem tableGet_error {α : Type} {name : TableName} {l : List α} {i : Nat} (h : l.length ≤ i) :
    tableGet name l i = .error (.indexOutOfRange name i) := by
  simp [tableGet, List.getElem?_eq_none h]

theorem tableGet_of_lt {α : Type} (name : TableName) {l : List α} {i : Nat} (h : i < l.length) :
    ∃ v ∈ l, l[i]? = some v ∧ tableGet name l i = .ok v :=
  ⟨l[i], List.getElem_mem h, by simp [h], by simp [tableGet, h]⟩

@[simp] theorem toOutcome_ok (s : State) : toOutcome (.ok s) = .next s := rfl
@[simp] theorem toOutcome_error (f : Fault) : toOutcome (.error f) = .fault f := rfl

theorem toOutcome_eq_next {r : Except Fault State} {t : State} : toOutcome r = .next t ↔ r = .ok t := by
  cases r <;> simp [toOutcome]

/-- The one way a bind answers: both parts do. -/
theorem bind_eq_ok {α β : Type} {x : Except Fault α} {f : α → Except Fault β} {b : β} :
    (x >>= f) = .ok b ↔ ∃ a, x = .ok a ∧ f a = .ok b := by
  cases x <;> simp [bind, Except.bind]

theorem map_eq_ok {α β : Type} {x : Except Fault α} {f : α → β} {b : β} :
    x.map f = .ok b ↔ ∃ a, x = .ok a ∧ f a = b := by
  cases x <;> simp [Except.map]

/-! ### The bus memory -/

theorem memLookup_memWrite_same (m : List Host.Cell) (a : Nat) (b : Byte) :
    memLookup (memWrite m a b) a = some b := by
  induction m with
  | nil => simp [memWrite, memLookup]
  | cons c rest ih =>
    obtain ⟨k, v⟩ := c
    by_cases h₁ : a < k
    · simp [memWrite, h₁, memLookup]
    · by_cases h₂ : a = k
      · simp [memWrite, h₂, memLookup]
      · simp [memWrite, h₁, h₂, memLookup, Ne.symm h₂, ih]

theorem memLookup_memWrite_other (m : List Host.Cell) {a a' : Nat} (b : Byte) (h : a' ≠ a) :
    memLookup (memWrite m a b) a' = memLookup m a' := by
  induction m with
  | nil => simp [memWrite, memLookup, h.symm]
  | cons c rest ih =>
    obtain ⟨k, v⟩ := c
    by_cases h₁ : a < k
    · simp [memWrite, h₁, memLookup, h.symm]
    · by_cases h₂ : a = k
      · subst h₂; simp [memWrite, memLookup, h.symm]
      · simp [memWrite, h₁, h₂, memLookup, ih]

theorem memRising_memWrite {low a : Nat} {m : List Host.Cell} (b : Byte) (hl : low ≤ a) (ha : a < 65536)
    (h : memRising low m = true) : memRising low (memWrite m a b) = true := by
  induction m generalizing low with
  | nil => simp [memWrite, memRising, hl, ha]
  | cons c rest ih =>
    obtain ⟨k, v⟩ := c
    simp only [memRising, Bool.and_eq_true, decide_eq_true_eq] at h
    obtain ⟨⟨h1, h2⟩, h3⟩ := h
    by_cases h₁ : a < k
    · simp [memWrite, h₁, memRising, hl, ha, h2, h3]
    · by_cases h₂ : a = k
      · subst h₂; simp [memWrite, memRising, hl, ha, h3]
      · simp only [memWrite, h₁, h₂, if_false, memRising, Bool.and_eq_true, decide_eq_true_eq]
        exact ⟨⟨h1, h2⟩, ih (by omega) h3⟩

/-- A store keeps the canonical form. -/
theorem memWf_memWrite {m : List Host.Cell} (a : Addr) (b : Byte) (h : Memory.wf m = true) :
    Memory.wf (memWrite m a.toNat b) = true :=
  memRising_memWrite b (Nat.zero_le _) a.isLt h

/-! ### The bus -/

/-- All that a bus read does. -/
theorem Bus.read_spec (b : Bus) (a : Addr) :
    (b.read a).1 = b.byteAt a ∧ (b.read a).2.mem = b.mem ∧ (b.read a).2.log = b.log ++ [a] := by
  unfold Bus.read Bus.byteAt
  cases memLookup b.mem a.toNat <;> exact ⟨rfl, rfl, rfl⟩

@[simp] theorem State.hostStore_byteAt_same (s : State) (a : Addr) (b : Byte) :
    (s.hostStore a b).bus.byteAt a = b := by
  simp [Bus.byteAt, memLookup_memWrite_same]

theorem State.hostStore_byteAt_other (s : State) {a a' : Addr} (b : Byte) (h : a' ≠ a) :
    (s.hostStore a b).bus.byteAt a' = s.bus.byteAt a' := by
  have : a'.toNat ≠ a.toNat := fun e => h (BitVec.eq_of_toNat_eq e)
  simp [Bus.byteAt, memLookup_memWrite_other _ b this]

end Sys2Proof.Machine
end

