-- ==== Sys2Proof/Laws/PerInstr.lean ====
section
/-! SUPPORT. The family `RowMatch` of per-instruction laws: the word an operation encodes to lies in that operation's row of
spec/opcode_table.json (rule R111). -/

namespace Sys2Proof.Laws.RowMatch

/-- The encoded word matches the operation's own row. -/
def Statement (i : Instr) : Prop := i.row.matches (encode i).word = true

/-- Masking off the data byte of a WRITE leaves the row's pattern. -/
theorem write_row : ∀ (off : Offset) (data : Byte),
    (OpcodeRow.mk (packWord 0b01#2 off 0#8) 0xFF00).matches (encodeWrite off data).word = true := by
  intro off data
  have h : (0xFF00#16) = 0xFF#8 ++ 0x00#8 := by decide
  have e (hi : BitVec 8) : (hi ++ data) &&& 0xFF00#16 = hi ++ 0x00#8 := by
    rw [h, BitVec.and_append, BitVec.and_zero, show (0xFF#8) = BitVec.allOnes 8 by decide, BitVec.and_allOnes]
  simpa [OpcodeRow.matches, encodeWrite, packWord] using e (0b01#2 ++ 0#1 ++ off)

theorem wrP1Ctrl (data : Byte) : Statement (.wrP1Ctrl data) := write_row 0x00 data
theorem wrP1Sweep (data : Byte) : Statement (.wrP1Sweep data) := write_row 0x01 data
theorem wrP1Tlo (data : Byte) : Statement (.wrP1Tlo data) := write_row 0x02 data
theorem wrP1Thi (data : Byte) : Statement (.wrP1Thi data) := write_row 0x03 data
theorem wrP2Ctrl (data : Byte) : Statement (.wrP2Ctrl data) := write_row 0x04 data
theorem wrP2Sweep (data : Byte) : Statement (.wrP2Sweep data) := write_row 0x05 data
theorem wrP2Tlo (data : Byte) : Statement (.wrP2Tlo data) := write_row 0x06 data
theorem wrP2Thi (data : Byte) : Statement (.wrP2Thi data) := write_row 0x07 data
theorem wrTriLinear (data : Byte) : Statement (.wrTriLinear data) := write_row 0x08 data
theorem wrTriUnused (data : Byte) : Statement (.wrTriUnused data) := write_row 0x09 data
theorem wrTriTlo (data : Byte) : Statement (.wrTriTlo data) := write_row 0x0A data
theorem wrTriThi (data : Byte) : Statement (.wrTriThi data) := write_row 0x0B data
theorem wrNoiseCtrl (data : Byte) : Statement (.wrNoiseCtrl data) := write_row 0x0C data
theorem wrNoiseUnused (data : Byte) : Statement (.wrNoiseUnused data) := write_row 0x0D data
theorem wrNoisePeriod (data : Byte) : Statement (.wrNoisePeriod data) := write_row 0x0E data
theorem wrNoiseLen (data : Byte) : Statement (.wrNoiseLen data) := write_row 0x0F data
theorem wrDmcCtrl (data : Byte) : Statement (.wrDmcCtrl data) := write_row 0x10 data
theorem wrDmcLevel (data : Byte) : Statement (.wrDmcLevel data) := write_row 0x11 data
theorem wrDmcAddr (data : Byte) : Statement (.wrDmcAddr data) := write_row 0x12 data
theorem wrDmcLen (data : Byte) : Statement (.wrDmcLen data) := write_row 0x13 data
theorem wrStatus (data : Byte) : Statement (.wrStatus data) := write_row 0x15 data
theorem wrFrame (data : Byte) : Statement (.wrFrame data) := write_row 0x17 data
theorem wrUnmapped14 (data : Byte) : Statement (.wrUnmapped14 data) := write_row 0x14 data
theorem wrUnmapped16 (data : Byte) : Statement (.wrUnmapped16 data) := write_row 0x16 data
theorem wrUnmapped18 (data : Byte) : Statement (.wrUnmapped18 data) := write_row 0x18 data
theorem wrUnmapped19 (data : Byte) : Statement (.wrUnmapped19 data) := write_row 0x19 data
theorem wrUnmapped1A (data : Byte) : Statement (.wrUnmapped1A data) := write_row 0x1A data
theorem wrUnmapped1B (data : Byte) : Statement (.wrUnmapped1B data) := write_row 0x1B data
theorem wrUnmapped1C (data : Byte) : Statement (.wrUnmapped1C data) := write_row 0x1C data
theorem wrUnmapped1D (data : Byte) : Statement (.wrUnmapped1D data) := write_row 0x1D data
theorem wrUnmapped1E (data : Byte) : Statement (.wrUnmapped1E data) := write_row 0x1E data
theorem wrUnmapped1F (data : Byte) : Statement (.wrUnmapped1F data) := write_row 0x1F data
theorem rdStatus : Statement .rdStatus := rfl
theorem rdOpen00 : Statement .rdOpen00 := rfl
theorem rdOpen01 : Statement .rdOpen01 := rfl
theorem rdOpen02 : Statement .rdOpen02 := rfl
theorem rdOpen03 : Statement .rdOpen03 := rfl
theorem rdOpen04 : Statement .rdOpen04 := rfl
theorem rdOpen05 : Statement .rdOpen05 := rfl
theorem rdOpen06 : Statement .rdOpen06 := rfl
theorem rdOpen07 : Statement .rdOpen07 := rfl
theorem rdOpen08 : Statement .rdOpen08 := rfl
theorem rdOpen09 : Statement .rdOpen09 := rfl
theorem rdOpen0A : Statement .rdOpen0A := rfl
theorem rdOpen0B : Statement .rdOpen0B := rfl
theorem rdOpen0C : Statement .rdOpen0C := rfl
theorem rdOpen0D : Statement .rdOpen0D := rfl
theorem rdOpen0E : Statement .rdOpen0E := rfl
theorem rdOpen0F : Statement .rdOpen0F := rfl
theorem rdOpen10 : Statement .rdOpen10 := rfl
theorem rdOpen11 : Statement .rdOpen11 := rfl
theorem rdOpen12 : Statement .rdOpen12 := rfl
theorem rdOpen13 : Statement .rdOpen13 := rfl
theorem rdOpen14 : Statement .rdOpen14 := rfl
theorem rdOpen16 : Statement .rdOpen16 := rfl
theorem rdOpen17 : Statement .rdOpen17 := rfl
theorem rdOpen18 : Statement .rdOpen18 := rfl
theorem rdOpen19 : Statement .rdOpen19 := rfl
theorem rdOpen1A : Statement .rdOpen1A := rfl
theorem rdOpen1B : Statement .rdOpen1B := rfl
theorem rdOpen1C : Statement .rdOpen1C := rfl
theorem rdOpen1D : Statement .rdOpen1D := rfl
theorem rdOpen1E : Statement .rdOpen1E := rfl
theorem rdOpen1F : Statement .rdOpen1F := rfl
theorem adv (n : Nat) : Statement (.adv n) := by
  show (OpcodeRow.mk 0x8000 0xFFFF).matches (packWord 0b10#2 0#5 0#8) = true
  decide

end Sys2Proof.Laws.RowMatch
end

