-- ==== Sys2Proof/Laws/Timer.lean ====
section
/-! SUPPORT. What a timer advance can do. -/

namespace Sys2Proof.Machine

theorem Timer.advance_inert {c : Config} {t : Timer} (h : t.inert c = true) (n : Q) : t.advance c n = (t, 0) := by
  simp [Timer.advance, h]

theorem Timer.advance_of_pos {c : Config} {t : Timer} {n : Q} (h : t.inert c = false) (hp : 0 < t.position - n) :
    t.advance c n = ({ t with position := t.position - n }, 0) := by
  simp [Timer.advance, h, sub_pos.mp hp]

theorem Timer.advance_of_nonpos {c : Config} {t : Timer} {n : Q} (h : t.inert c = false) (hp : t.position - n ≤ 0) :
    t.advance c n = ({ t with
      position := t.position - n + (t.ticksFor (t.position - n) : Q) * t.period }, t.ticksFor (t.position - n)) := by
  have : ¬ 0 < t.position - n := not_lt.mpr hp
  simp only [Timer.advance, h, this, if_false, Bool.false_eq_true]

/-- An advance never changes the period. -/
@[simp] theorem Timer.advance_period (c : Config) (t : Timer) (n : Q) : (t.advance c n).1.period = t.period := by
  unfold Timer.advance
  split
  · rfl
  · dsimp only; split <;> rfl

/-- A timer that is not inert: the position falls by `n` and rises by a period for each tick. -/
theorem Timer.advance_position {c : Config} {t : Timer} {n : Q} (h : t.inert c = false) :
    (t.advance c n).1.position = t.position - n + ((t.advance c n).2 : Q) * t.period := by
  by_cases hp : 0 < t.position - n
  · simp [Timer.advance_of_pos h hp]
  · simp [Timer.advance_of_nonpos h (not_lt.mp hp)]

/-- The same timer, but for its position. -/
theorem Timer.advance_fst (c : Config) (t : Timer) (n : Q) :
    (t.advance c n).1 = { t with position := (t.advance c n).1.position } := by
  have := Timer.advance_period c t n
  cases h : (t.advance c n).1
  simp_all

end Sys2Proof.Machine
end

