-- ==== Sys2Proof/Laws/SampleStep.lean ====
section
/-! SUPPORT. What a sample step and an ADVANCE can do, said once: the induction each loop of the model gives, and the
inversion of `sampleStep` and `execAdv`. -/

namespace Sys2Proof.Machine

/-- A property that quarter-frame and half-frame work keep is kept by the frame work of a sample step. -/
theorem applyFrames_keeps {α : Type} {onQuarter onHalf : α → α} (P : α → Prop)
    (hq : ∀ a, P a → P (onQuarter a)) (hh : ∀ a, P a → P (onHalf a)) (ticks : List FrameTick) (a : α) (h : P a) :
    P (applyFrames onQuarter onHalf ticks a) := by
  induction ticks generalizing a with
  | nil => exact h
  | cons tick rest ih =>
    simp only [applyFrames]
    apply ih
    cases tick.quarter <;> cases tick.half <;> simp [h, hq, hh]

/-- A property of the DMC and the bus that each tick keeps is kept by any number of ticks. -/
theorem DmcChannel.onTimer_keeps (P : DmcChannel → Bus → Prop)
    (ht : ∀ d b, P d b → P (d.tick b).1 (d.tick b).2) (n : Nat) (d : DmcChannel) (b : Bus) (h : P d b) :
    P (DmcChannel.onTimer n d b).1 (DmcChannel.onTimer n d b).2 := by
  induction n generalizing d b with
  | zero => exact h
  | succ n ih => exact ih _ _ (ht d b h)

theorem lfsrSteps_keeps (P : BitVec 15 → Prop) (mode : Bool) (hs : ∀ l, P l → P (lfsrStep mode l)) (n : Nat)
    (l : BitVec 15) (h : P l) : P (lfsrSteps mode n l) := by
  induction n generalizing l with
  | zero => exact h
  | succ n ih => exact ih _ (hs l h)

/-- The frame work as a fold over the ticks, the quarter before the half. -/
theorem applyFrames_eq_foldl {α : Type} (onQuarter onHalf : α → α) (ticks : List FrameTick) (a : α) :
    applyFrames onQuarter onHalf ticks a =
      ticks.foldl (fun a tick =>
        let a := if tick.quarter then onQuarter a else a
        if tick.half then onHalf a else a) a := by
  induction ticks generalizing a with
  | nil => rfl
  | cons tick rest ih => exact ih _

theorem lfsrSteps_eq_iterate (mode : Bool) (n : Nat) (l : BitVec 15) : lfsrSteps mode n l = (lfsrStep mode)^[n] l := by
  induction n generalizing l with
  | zero => rfl
  | succ n ih => exact ih _

/-- `n` timer ticks of the DMC as `n` turns of one tick on the DMC and the bus. -/
theorem DmcChannel.onTimer_eq_iterate (n : Nat) (d : DmcChannel) (bus : Bus) :
    DmcChannel.onTimer n d bus = (fun x : DmcChannel × Bus => x.1.tick x.2)^[n] (d, bus) := by
  induction n generalizing d bus with
  | zero => rfl
  | succ n ih => exact ih _ _

/-- All that a sample step does. -/
theorem sampleStep_cases {s t : State} (h : sampleStep s = .ok t) :
    ∃ fs ticks x, s.apu.fs.advance s.cfg s.cfg.cps = .ok (fs, ticks) ∧
      (s.apu.channelWork s.cfg fs ticks s.bus).1.mixedOutput s.cfg = .ok x ∧
      t = ({ s with
        apu := (s.apu.channelWork s.cfg fs ticks s.bus).1
        bus := (s.apu.channelWork s.cfg fs ticks s.bus).2 } : State).emit x := by
  unfold sampleStep at h
  obtain ⟨⟨fs, ticks⟩, h₁, h⟩ := bind_eq_ok.mp h
  obtain ⟨x, h₂, h⟩ := bind_eq_ok.mp h
  exact ⟨fs, ticks, x, h₁, h₂, (Except.ok.inj h).symm⟩

/-- A relation between states that every sample step gives, and that composes, holds over any number of them. -/
theorem sampleSteps_induction {k : Nat} {s t : State} (R : State → State → Prop) (hr : ∀ s, R s s)
    (ht : ∀ a b c, R a b → R b c → R a c) (hs : ∀ a b, sampleStep a = .ok b → R a b)
    (h : sampleSteps k s = .ok t) : R s t := by
  induction k generalizing s with
  | zero => cases Except.ok.inj h; exact hr _
  | succ k ih =>
    obtain ⟨m, h₁, h₂⟩ := bind_eq_ok.mp h
    exact ht _ _ _ (hs _ _ h₁) (ih h₂)

/-- A property that every sample step keeps is kept by any number of them. -/
theorem sampleSteps_keeps {k : Nat} {s t : State} (P : State → Prop)
    (hs : ∀ a b, P a → sampleStep a = .ok b → P b) (h : sampleSteps k s = .ok t) (hP : P s) : P t :=
  sampleSteps_induction (fun a b => P a → P b) (fun _ h => h) (fun _ _ _ f g h => g (f h))
    (fun a b h₁ h₂ => hs a b h₂ h₁) h hP

/-- If every state with property `P` has a sample step, which keeps `P`, then any number of them succeed. -/
theorem sampleSteps_total (P : State → Prop) (hs : ∀ a, P a → ∃ b, sampleStep a = .ok b ∧ P b) (k : Nat) (s : State)
    (hP : P s) : ∃ t, sampleSteps k s = .ok t ∧ P t := by
  induction k generalizing s with
  | zero => exact ⟨s, rfl, hP⟩
  | succ k ih =>
    obtain ⟨b, h₁, h₂⟩ := hs s hP
    obtain ⟨t, h₃, h₄⟩ := ih b h₂
    exact ⟨t, bind_eq_ok.mpr ⟨b, h₁, h₃⟩, h₄⟩

theorem sampleSteps_add (j k : Nat) (s : State) :
    sampleSteps (j + k) s = (sampleSteps j s >>= fun m => sampleSteps k m) := by
  induction j generalizing s with
  | zero => simp [sampleSteps, bind, Except.bind]
  | succ j ih =>
    rw [Nat.succ_add]
    simp only [sampleSteps]
    cases sampleStep s <;> simp [bind, Except.bind, ih]

/-- All that an `ADVANCE` does. -/
theorem execAdv_cases {n : Nat} {s t : State} (h : execAdv n s = .next t) :
    sampleSteps (s.sampleTicks n).2 (s.setSampleClock (s.sampleTicks n).1) = .ok t :=
  toOutcome_eq_next.mp h

end Sys2Proof.Machine
end

