-- ==== Sys2Proof/Laws/Ranges.lean ====
section
/-! SUPPORT. What every unit keeps in range: each shared operation and each part of the sample step takes fields in the
ranges of rule R46 to fields in them, under a configuration rule R11 admits; the frame sequencer's ticks, said once. -/

namespace Sys2Proof.Machine

/-! ### Timer -/

theorem timerMin_pos {c : Config} (hc : c.WellFormed) : (0 : Q) < c.timerMinPeriod := by
  exact_mod_cast hc.timerMin

theorem clampP_integral {c : Config} {p : Q} (h : ∃ n : Nat, p = n) : ∃ n : Nat, c.clampP p = n := by
  unfold Config.clampP
  split
  · split
    · exact ⟨_, rfl⟩
    · exact h
  · exact h

theorem Timer.setPeriod_ok {c : Config} (hc : c.WellFormed) {t : Timer} (h : t.Ok c) {p : Q} (hp : 0 ≤ p) :
    (t.setPeriod c p).Ok c := by
  have hm := timerMin_pos hc
  refine ⟨?_, h.position, fun hk => ⟨?_, (h.clamped hk).2⟩⟩
  · simp only [Timer.setPeriod, Config.clampP]
    split
    · split <;> linarith
    · exact hp
  · simp only [Timer.setPeriod, Config.clampP, hk]
    split <;> linarith

/-- A timer in range that is not inert has a period of at least the minimum. -/
theorem Timer.Ok.period_pos {c : Config} (hc : c.WellFormed) {t : Timer} (h : t.Ok c) (hi : t.inert c = false) :
    0 < t.period := by
  have hm := timerMin_pos hc
  cases hk : c.lowPeriodPolicy with
  | clamp => exact lt_of_lt_of_le hm (h.clamped hk).1
  | disable =>
    have : (c.timerMinPeriod : Q) ≤ t.period := by simpa [Timer.inert, hk] using hi
    exact lt_of_lt_of_le hm this

/-- `ticksFor` is the floor of rule R122, plus one. -/
theorem Timer.ticksFor_eq {t : Timer} {p : Q} (ht : 0 < t.period) (hp : p ≤ 0) :
    ((t.ticksFor p : Nat) : Q) = (⌊(0 - p) / t.period⌋ : Q) + 1 := by
  have hq : 0 ≤ (0 - p) / t.period := div_nonneg (by linarith) ht.le
  have : ((t.ticksFor p : Nat) : ℤ) = ⌊(0 - p) / t.period⌋ + 1 := by
    unfold Timer.ticksFor
    push_cast
    rw [Int.toNat_of_nonneg (Int.floor_nonneg.mpr hq)]
  exact_mod_cast this

theorem Timer.advance_position_pos {c : Config} {t : Timer} (hi : t.inert c = false) (ht : 0 < t.period) (n : Q) :
    0 < (t.advance c n).1.position := by
  by_cases hp : 0 < t.position - n
  · rw [Timer.advance_of_pos hi hp]
    exact hp
  · have hp := not_lt.mp hp
    rw [Timer.advance_of_nonpos hi hp]
    have h := Int.lt_floor_add_one ((0 - (t.position - n)) / t.period)
    rw [div_lt_iff₀ ht] at h
    simp only [Timer.ticksFor_eq ht hp]
    linarith

theorem Timer.advance_ok {c : Config} (hc : c.WellFormed) {t : Timer} (h : t.Ok c) (n : Q) : (t.advance c n).1.Ok c := by
  cases hi : t.inert c with
  | true =>
    rw [Timer.advance_inert hi]
    exact h
  | false =>
    have hpos := Timer.advance_position_pos hi (h.period_pos hc hi) n
    exact ⟨by simpa using h.period, hpos.le, fun hk => ⟨by simpa using (h.clamped hk).1, hpos⟩⟩

/-- A timer with a period and a position above 0 keeps both through an advance. -/
theorem Timer.advance_positive {c : Config} {t : Timer} (h : t.Positive) (n : Q) : (t.advance c n).1.Positive := by
  cases hi : t.inert c with
  | true =>
    rw [Timer.advance_inert hi]
    exact h
  | false => exact ⟨by simpa using h.period, Timer.advance_position_pos hi h.period n⟩

/-- A mode write keeps the frame sequencer's timer positive. -/
theorem Timer.setPeriod_positive {c : Config} (hc : c.WellFormed) {t : Timer} (h : t.Positive) {p : Q} (hp : 0 < p) :
    (t.setPeriod c p).Positive := by
  refine ⟨?_, h.position⟩
  simp only [Timer.setPeriod, Config.clampP]
  split
  · split
    · exact timerMin_pos hc
    · exact hp
  · exact hp

theorem Config.cps_pos {c : Config} (hc : c.WellFormed) : 0 < c.cps :=
  div_pos (Nat.cast_pos.mpr hc.cpuClock) (Nat.cast_pos.mpr hc.sampleRate)

/-! ### Envelope, length counter, sweep -/

theorem Envelope.advance_ok {e : Envelope} (h : e.Ok) : e.advance.Ok := by
  obtain ⟨h1, h2, h3⟩ := h
  unfold Envelope.advance
  split
  · exact ⟨h3, le_refl _, h3⟩
  · split
    · split
      · exact ⟨h3, by simp; omega, h3⟩
      · split
        · exact ⟨h3, le_refl _, h3⟩
        · exact ⟨h3, h2, h3⟩
    · exact ⟨by simp; omega, h2, h3⟩

theorem LengthCounter.clock_ok {l : LengthCounter} (h : l.Ok) (halt : Bool) : (l.clock halt).Ok := by
  obtain ⟨h1, h2, h3⟩ := h
  unfold LengthCounter.clock
  split
  · exact ⟨by simp; omega, h2, fun he => by have := h3 he; simp; omega⟩
  · exact ⟨h1, h2, h3⟩

theorem LengthCounter.setConfigured_ok {l : LengthCounter} {v : Nat} (hv : v ≤ 255) (h : l.Ok) :
    (l.setConfigured v).Ok := by
  unfold LengthCounter.setConfigured
  split
  · exact ⟨hv, hv, fun e => by simp_all⟩
  · exact h

theorem LengthCounter.setEnabled_ok {l : LengthCounter} (e : Bool) (h : l.Ok) : (l.setEnabled e).Ok := by
  unfold LengthCounter.setEnabled
  split
  · exact ⟨by simp, by simp, by simp⟩
  · exact h

theorem Sweep.advance_ok {s : Sweep} (h : s.Ok) : s.advance.Ok := by
  obtain ⟨h1, h2, h3⟩ := h
  unfold Sweep.advance
  split
  · exact ⟨h2, h2, h3⟩
  · split
    · exact ⟨h2, h2, h3⟩
    · exact ⟨by simp; omega, h2, h3⟩

/-- A target that is written back is not negative. -/
theorem Sweep.target_nonneg {sw : Sweep} {cur : Nat} (hm : sw.mute cur = false) (hs : sw.shift ≠ 0) :
    0 ≤ sw.target cur := by
  simp only [Sweep.mute, Bool.or_eq_false_iff, decide_eq_false_iff_not] at hm
  obtain ⟨k, hk⟩ := Nat.exists_eq_succ_of_ne_zero hs
  have hd : cur >>> sw.shift ≤ cur / 2 := by
    rw [Nat.shiftRight_eq_div_pow, hk, pow_succ, mul_comm, ← Nat.div_div_eq_div_mul]
    exact Nat.div_le_self _ _
  unfold Sweep.target
  generalize cur >>> sw.shift = delta at hd
  dsimp only
  split
  · split <;> omega
  · omega

/-- The sweep's Timer keeps its range and its integral period. -/
theorem Sweep.advanceTimer_ok {c : Config} (hc : c.WellFormed) (sw : Sweep) {t : Timer} (h : t.Ok c)
    (hint : ∃ n : Nat, t.period = n) :
    (sw.advanceTimer c t).Ok c ∧ ∃ n : Nat, (sw.advanceTimer c t).period = n := by
  unfold Sweep.advanceTimer
  split
  · rename_i hw
    simp only [Sweep.writesBack, Bool.and_eq_true, Bool.not_eq_true', decide_eq_true_eq] at hw
    have ht := Sweep.target_nonneg hw.1.2 hw.2
    refine ⟨Timer.setPeriod_ok hc h (by exact_mod_cast ht), clampP_integral ⟨(sw.target t.cur).toNat, ?_⟩⟩
    rw [← Int.cast_natCast, Int.toNat_of_nonneg ht]
  · exact ⟨h, hint⟩

/-! ### Channels -/

theorem PulseChannel.onHalfFrame_ok {c : Config} (hc : c.WellFormed) {p : PulseChannel} (h : p.Ok c) :
    (p.onHalfFrame c).Ok c := by
  obtain ⟨k1, k2⟩ := Sweep.advanceTimer_ok hc p.sweep h.timer h.integral
  exact ⟨k1, k2, h.duty, h.step, h.env, Sweep.advance_ok h.sweep, LengthCounter.clock_ok h.len _⟩

theorem PulseChannel.onQuarterFrame_ok {c : Config} {p : PulseChannel} (h : p.Ok c) : (p.onQuarterFrame).Ok c :=
  ⟨h.timer, h.integral, h.duty, h.step, Envelope.advance_ok h.env, h.sweep, h.len⟩

theorem PulseChannel.sampleWork_ok {c : Config} (hc : c.WellFormed) {p : PulseChannel} (h : p.Ok c)
    (ticks : List FrameTick) : (p.sampleWork c ticks).Ok c := by
  have h' : (applyFrames PulseChannel.onQuarterFrame (PulseChannel.onHalfFrame c) ticks p).Ok c :=
    applyFrames_keeps (fun p => p.Ok c) (fun _ h => PulseChannel.onQuarterFrame_ok h)
      (fun _ h => PulseChannel.onHalfFrame_ok hc h) ticks p h
  unfold PulseChannel.sampleWork
  exact ⟨Timer.advance_ok hc h'.timer _, by simpa [PulseChannel.onTimer] using h'.integral, h'.duty,
    Nat.mod_lt _ (by decide), h'.env, h'.sweep, h'.len⟩

theorem TriangleChannel.onQuarterFrame_ok {c : Config} {t : TriangleChannel} (h : t.Ok c) : t.onQuarterFrame.Ok c := by
  obtain ⟨h1, h2, h3, h4, h5⟩ := h
  unfold TriangleChannel.onQuarterFrame
  split
  · exact ⟨h1, h2, h4, h4, h5⟩
  · split
    · exact ⟨h1, h2, by simp; omega, h4, h5⟩
    · exact ⟨h1, h2, h3, h4, h5⟩

theorem TriangleChannel.onHalfFrame_ok {c : Config} {t : TriangleChannel} (h : t.Ok c) : t.onHalfFrame.Ok c :=
  ⟨h.timer, h.step, h.linear, h.linLength, LengthCounter.clock_ok h.len _⟩

theorem TriangleChannel.sampleWork_ok {c : Config} (hc : c.WellFormed) {t : TriangleChannel} (h : t.Ok c)
    (ticks : List FrameTick) : (t.sampleWork c ticks).Ok c := by
  have h' : (applyFrames TriangleChannel.onQuarterFrame TriangleChannel.onHalfFrame ticks t).Ok c :=
    applyFrames_keeps (fun t => t.Ok c) (fun _ h => TriangleChannel.onQuarterFrame_ok h)
      (fun _ h => TriangleChannel.onHalfFrame_ok h) ticks t h
  unfold TriangleChannel.sampleWork
  dsimp only [TriangleChannel.onTimer]
  split
  · exact ⟨Timer.advance_ok hc h'.timer _, Nat.mod_lt _ (by decide), h'.linear, h'.linLength, h'.len⟩
  · exact ⟨Timer.advance_ok hc h'.timer _, h'.step, h'.linear, h'.linLength, h'.len⟩

/-- Rule R241: the all-zero register is not reached from another. -/
theorem lfsrStep_ne_zero (mode : Bool) (l : BitVec 15) (h : l ≠ 0) : lfsrStep mode l ≠ 0 := by
  intro h0
  have hs : l >>> 1 = 0#15 := (BitVec.or_eq_zero_iff.mp h0).1
  have hn : l.toNat / 2 = 0 := by simpa [Nat.shiftRight_eq_div_pow] using congrArg BitVec.toNat hs
  have h1 : l = 1#15 := by
    apply BitVec.eq_of_toNat_eq
    have : l.toNat ≠ 0 := fun e => h (BitVec.eq_of_toNat_eq e)
    show l.toNat = 1
    omega
  subst h1
  cases mode <;> exact absurd h0 (by decide)

theorem NoiseChannel.onQuarterFrame_ok {c : Config} {n : NoiseChannel} (h : n.Ok c) : n.onQuarterFrame.Ok c :=
  ⟨h.timer, h.lfsr, Envelope.advance_ok h.env, h.len⟩

theorem NoiseChannel.onHalfFrame_ok {c : Config} {n : NoiseChannel} (h : n.Ok c) : n.onHalfFrame.Ok c :=
  ⟨h.timer, h.lfsr, h.env, LengthCounter.clock_ok h.len _⟩

theorem NoiseChannel.sampleWork_ok {c : Config} (hc : c.WellFormed) {n : NoiseChannel} (h : n.Ok c)
    (ticks : List FrameTick) : (n.sampleWork c ticks).Ok c := by
  have h' : (applyFrames NoiseChannel.onQuarterFrame NoiseChannel.onHalfFrame ticks n).Ok c :=
    applyFrames_keeps (fun n => n.Ok c) (fun _ h => NoiseChannel.onQuarterFrame_ok h)
      (fun _ h => NoiseChannel.onHalfFrame_ok h) ticks n h
  unfold NoiseChannel.sampleWork
  exact ⟨Timer.advance_ok hc h'.timer _, lfsrSteps_keeps (fun l => l ≠ 0) _ (lfsrStep_ne_zero _) _ _ h'.lfsr, h'.env,
    h'.len⟩

theorem DmcChannel.memoryUnit_ok {c : Config} {d : DmcChannel} (bus : Bus) (h : d.Ok c) :
    (d.memoryUnit bus).1.Ok c ∧ (d.memoryUnit bus).2.mem = bus.mem := by
  obtain ⟨h1, h2, h3, h4, h5⟩ := h
  unfold DmcChannel.memoryUnit
  split
  · refine ⟨?_, (Bus.read_spec bus d.curAddress).2.1⟩
    simp only [DmcChannel.takeByte]
    split
    · simp only [DmcChannel.endOfSample, DmcChannel.restart, DmcChannel.raiseIrq]
      split
      · exact ⟨h1, h2, h2.2, h4, h5⟩
      · split <;> exact ⟨h1, h2, by simp; omega, h4, h5⟩
    · exact ⟨h1, h2, by simp; omega, h4, h5⟩
  · exact ⟨⟨h1, h2, h3, h4, h5⟩, rfl⟩

theorem DmcChannel.outputUnit_ok {c : Config} {d : DmcChannel} (h : d.Ok c) : d.outputUnit.Ok c := by
  have hb : d.bitStep.Ok c := by
    obtain ⟨h1, h2, h3, h4, h5⟩ := h
    unfold DmcChannel.bitStep
    split
    · exact ⟨h1, h2, h3, h4, h5⟩
    · refine ⟨h1, h2, h3, h4, ?_⟩
      simp only [deltaLevel]
      split <;> omega
  obtain ⟨h1, h2, h3, h4, h5⟩ := hb
  simp only [DmcChannel.outputUnit, DmcChannel.byteBoundary]
  split
  · split <;> exact ⟨h1, h2, h3, by simp, h5⟩
  · exact ⟨h1, h2, h3, by simp; omega, h5⟩

theorem DmcChannel.tick_ok {c : Config} {d : DmcChannel} (bus : Bus) (h : d.Ok c) :
    (d.tick bus).1.Ok c ∧ (d.tick bus).2.mem = bus.mem :=
  ⟨DmcChannel.outputUnit_ok (DmcChannel.memoryUnit_ok bus h).1, (DmcChannel.memoryUnit_ok bus h).2⟩

theorem DmcChannel.sampleWork_ok {c : Config} (hc : c.WellFormed) {d : DmcChannel} (bus : Bus) (h : d.Ok c) :
    (d.sampleWork c bus).1.Ok c ∧ (d.sampleWork c bus).2.mem = bus.mem := by
  unfold DmcChannel.sampleWork
  exact DmcChannel.onTimer_keeps (fun d b => d.Ok c ∧ b.mem = bus.mem)
    (fun d b h => ⟨(DmcChannel.tick_ok b h.1).1, (DmcChannel.tick_ok b h.1).2.trans h.2⟩) _ _ bus
    ⟨⟨Timer.advance_ok hc h.timer _, h.sampleLength, h.bytesRemaining, h.bitsLeft, h.level⟩, rfl⟩

/-! ### Frame sequencer -/

/-- All that `k` frame ticks from a step in range give (rules R142, R143). -/
theorem frameTicks_spec (m : FrameMode) (k step : Nat) (h : step < m.steps) :
    ∃ ticks, frameTicks m k step = .ok (ticks, (step + k) % m.steps) ∧ ticks.length = k ∧
      ∀ i, i < k → ticks[i]? = m.table[(step + i) % m.steps]? := by
  induction k generalizing step with
  | zero => exact ⟨[], by simp [frameTicks, Nat.mod_eq_of_lt h], rfl, by simp⟩
  | succ k ih =>
    have hpos : 0 < m.steps := by omega
    obtain ⟨ticks, h1, h2, h3⟩ := ih ((step + 1) % m.steps) (Nat.mod_lt _ hpos)
    have hl : m.table.length = m.steps := by cases m <;> rfl
    obtain ⟨v, _, hv, hv'⟩ := tableGet_of_lt (.frameSteps m) (l := m.table) (i := step) (by omega)
    refine ⟨v :: ticks, ?_, by simp [h2], ?_⟩
    · simp only [frameTicks, hv', h1, bind, Except.bind]
      rw [Nat.mod_add_mod, show step + 1 + k = step + (k + 1) by omega]
    · intro i hi
      cases i with
      | zero => simp [Nat.mod_eq_of_lt h, hv]
      | succ i =>
        have := h3 i (by omega)
        rw [Nat.mod_add_mod, show step + 1 + i = step + (i + 1) by omega] at this
        simpa using this

theorem FrameSequencer.advance_ok {c : Config} {fs : FrameSequencer} (h : fs.Ok) (n : Q) :
    ∃ fs' ticks, fs.advance c n = .ok (fs', ticks) ∧ fs'.Ok := by
  obtain ⟨ticks, h1, -, -⟩ := frameTicks_spec fs.mode (fs.timer.advance c n).2 fs.step h.step
  have hs := h.step
  simp only [FrameSequencer.advance, h.step, if_true, h1, bind, Except.bind]
  exact ⟨_, _, rfl, Timer.advance_positive h.timer _, Nat.mod_lt _ (by show 0 < fs.mode.steps; omega)⟩

/-! ### Amplitudes and the sample step -/

theorem PulseChannel.amp_total {c : Config} (hc : c.WellFormed) {p : PulseChannel} (h : p.Ok c) :
    ∃ a, p.amp c = .ok a := by
  obtain ⟨row, hr, -, h2⟩ :=
    tableGet_of_lt .dutyTable (l := c.dutyTable) (i := p.duty) (by rw [hc.dutySize]; exact h.duty)
  obtain ⟨b, -, -, h4⟩ :=
    tableGet_of_lt .dutyRow (l := row) (i := p.step) (by rw [(hc.dutyRows row hr).1]; exact h.step)
  unfold PulseChannel.amp
  split
  · exact ⟨_, rfl⟩
  · split
    · exact ⟨_, rfl⟩
    · exact ⟨b * p.env.level, by simp [PulseChannel.squareOut, h2, h4, bind, Except.bind]⟩

theorem TriangleChannel.amp_total {c : Config} {t : TriangleChannel} (h : t.Ok c) : ∃ a, t.amp = .ok a := by
  obtain ⟨b, -, -, h4⟩ := tableGet_of_lt .triangleRamp (l := triangleRamp) (i := t.step) h.step
  exact ⟨b * inertEnvelopeLevel, by simp [TriangleChannel.amp, h4, bind, Except.bind]⟩

/-- The channels' part of a sample step keeps the block in range and the bus memory as it is. -/
theorem Apu.channelWork_ok {c : Config} (hc : c.WellFormed) {a : Apu} (h : a.Ok c) {fs : FrameSequencer} (hf : fs.Ok)
    (ticks : List FrameTick) (bus : Bus) :
    (a.channelWork c fs ticks bus).1.Ok c ∧ (a.channelWork c fs ticks bus).2.mem = bus.mem := by
  obtain ⟨d1, d2⟩ := DmcChannel.sampleWork_ok hc bus h.dmc
  exact ⟨⟨h.sampleClock, hf, PulseChannel.sampleWork_ok hc h.p1 _, PulseChannel.sampleWork_ok hc h.p2 _,
    TriangleChannel.sampleWork_ok hc h.tri _, NoiseChannel.sampleWork_ok hc h.noise _, d1⟩, d2⟩

theorem Apu.mixedOutput_total {c : Config} (hc : c.WellFormed) {a : Apu} (h : a.Ok c) :
    ∃ x, a.mixedOutput c = .ok x := by
  obtain ⟨a1, e1⟩ := PulseChannel.amp_total hc h.p1
  obtain ⟨a2, e2⟩ := PulseChannel.amp_total hc h.p2
  obtain ⟨a3, e3⟩ := TriangleChannel.amp_total h.tri
  exact ⟨_, bind_eq_ok.mpr ⟨_, e1, bind_eq_ok.mpr ⟨_, e2, bind_eq_ok.mpr ⟨_, e3, rfl⟩⟩⟩⟩

/-- The filter chain touches the filter state and the samples alone. -/
theorem State.emit_inv {s : State} (x : F64) (h : s.Inv) : (s.emit x).Inv :=
  ⟨h.mem, ⟨h.apu.sampleClock, h.apu.fs, h.apu.p1, h.apu.p2, h.apu.tri, h.apu.noise, h.apu.dmc⟩⟩

/-- A good state has a sample step, to a good state. -/
theorem sampleStep_ok {s : State} (h : s.Inv) : ∃ t, sampleStep s = .ok t ∧ t.Inv := by
  obtain ⟨fs, ticks, h1, h2⟩ := FrameSequencer.advance_ok h.apu.fs s.cfg.cps
  obtain ⟨w1, w2⟩ := Apu.channelWork_ok s.cfg_wellFormed h.apu h2 ticks s.bus
  obtain ⟨x, hx⟩ := Apu.mixedOutput_total s.cfg_wellFormed w1
  exact ⟨_, bind_eq_ok.mpr ⟨_, h1, bind_eq_ok.mpr ⟨_, hx, rfl⟩⟩,
    State.emit_inv x ⟨(congrArg Memory.wf w2).trans h.mem, w1⟩⟩

/-! ### Construction -/

theorem Timer.construct_ok {c : Config} (hc : c.WellFormed) {p : Q} (hp : 0 ≤ p) : (Timer.construct c p).Ok c := by
  have hm := timerMin_pos hc
  have h : 0 ≤ c.clampP p := by
    unfold Config.clampP
    split
    · split <;> linarith
    · exact hp
  refine ⟨h, h, fun hk => ?_⟩
  simp only [Timer.construct, Timer.ofPeriod, Config.clampP, hk]
  constructor <;> split <;> linarith

theorem Timer.ofPeriod_positive {p : Q} (hp : 0 < p) : (Timer.ofPeriod p).Positive := ⟨hp, hp⟩

theorem LengthCounter.construct_ok : LengthCounter.construct.Ok := ⟨Nat.zero_le _, Nat.zero_le _, fun _ => ⟨rfl, rfl⟩⟩

theorem Envelope.construct_ok : Envelope.construct.Ok := ⟨Nat.zero_le _, Nat.zero_le _, Nat.zero_le _⟩

theorem Sweep.construct_ok (k : SweepConvention) : (Sweep.construct k).Ok := ⟨Nat.zero_le _, Nat.zero_le _, Nat.zero_le _⟩

theorem PulseChannel.construct_ok {c : Config} (hc : c.WellFormed) (k : SweepConvention) :
    (PulseChannel.construct c k).Ok c :=
  ⟨Timer.construct_ok hc (Nat.cast_nonneg _), clampP_integral ⟨_, rfl⟩, Nat.succ_pos _, Nat.succ_pos _,
    Envelope.construct_ok, Sweep.construct_ok k, LengthCounter.construct_ok⟩

/-- Every unit of a newly constructed block is in range. -/
theorem Apu.construct_ok {c : Config} (hc : c.WellFormed) : (Apu.construct c).Ok c where
  sampleClock := Timer.ofPeriod_positive (Config.cps_pos hc)
  fs := ⟨Timer.ofPeriod_positive (div_pos hc.frameTotal (by norm_num)), Nat.succ_pos 3⟩
  p1 := PulseChannel.construct_ok hc _
  p2 := PulseChannel.construct_ok hc _
  tri := ⟨Timer.construct_ok hc (Nat.cast_nonneg _), Nat.succ_pos _, Nat.zero_le _, Nat.zero_le _,
    LengthCounter.construct_ok⟩
  noise := ⟨Timer.construct_ok hc (Nat.cast_nonneg _), (by decide : (1 : BitVec 15) ≠ 0), Envelope.construct_ok,
    LengthCounter.construct_ok⟩
  dmc := ⟨Timer.construct_ok hc (Nat.cast_nonneg _), hc.sampleLengthMap.2 0 (Nat.succ_pos _), Nat.zero_le _,
    ⟨Nat.succ_pos 7, Nat.le_refl 8⟩, Nat.zero_le _⟩

end Sys2Proof.Machine
end

