-- ==== Sys2Proof/Tests/Slice0.lean ====
section
/-! SUPPORT. The model's own tests: the refusals of the well-formedness checks, words written out from the spec's encodings,
single steps and units against the vectors of 95_test_vectors.md (cited V<n>), and for every obligation with hypotheses
a concrete case that meets them. -/

namespace Sys2Proof.Tests

-- one theorem at a time: each `decide +kernel` would otherwise hold a thread of its own while it waits
set_option Elab.async false

open Sys2Proof.Machine

/-! ## Helpers -/

/-- The test configuration TC1 of 95_test_vectors.md section 0. -/
def tc1 : Config := Config.withRates 1764000 44100 29840

theorem tc1_accepted : tc1.check = true := by decide +kernel

/-- The block newly reset under TC1. -/
def start : State := State.ofConfig ⟨tc1, tc1_accepted⟩

def nextOf (o : Host.Outcome State Fault Refusal) : Option State :=
  match o with
  | .next s => some s
  | .fault _ => none
  | .refused _ => none

/-- What `f` says of the state after one operation. -/
def after {α : Type} (i : Instr) (s : State) (f : State → α) : Option α := (nextOf (exec i s)).map f

/-- The binary64 datum with these bits. -/
def bits (n : Nat) : F64 := ⟨BitVec.ofNat 64 n⟩

/-! ## Well-formedness smoke: each check refuses an ill-formed term -/

theorem test_wf_rd_offset_out_of_range : (AsmLine.rd 32).wellFormed = false := by decide
theorem test_wf_wr_offset_out_of_range : (AsmLine.wr 32 0).wellFormed = false := by decide
theorem test_wf_wr_data_out_of_range : (AsmLine.wr 0x15 256).wellFormed = false := by decide
theorem test_wf_tone_base_not_a_tone_channel : (AsmLine.tone 0x0C 1 1).wellFormed = false := by decide
theorem test_wf_tone_period_out_of_range : (AsmLine.tone 0x08 2048 31).wellFormed = false := by decide
theorem test_wf_tone_length_out_of_range : (AsmLine.tone 0x04 2047 32).wellFormed = false := by decide
theorem test_wf_boundary_lines_pass : (AsmLine.rd 31).wellFormed = true ∧ (AsmLine.wr 31 255).wellFormed = true ∧
    (AsmLine.tone 0x08 2047 31).wellFormed = true ∧ (AsmLine.tone 0x00 0 0).wellFormed = true := by decide
/-- Rule R11: a rate of 0, a table of the wrong size, a sample length out of range. -/
theorem test_wf_config_refusals : ¬ ({ tc1 with sampleRateHz := 0 } : Config).WellFormed ∧
    ¬ ({ tc1 with lengthTable := [10] } : Config).WellFormed ∧
    ¬ ({ tc1 with dmcSampleLength := .affine 0 16 } : Config).WellFormed := by
  refine ⟨fun h => ?_, fun h => ?_, fun h => ?_⟩
  · exact absurd h.sampleRate (by decide)
  · exact absurd h.lengthSize (by decide)
  · exact absurd (h.sampleLengthMap.2 0 (by decide)).1 (by decide)

/-- Rule R11: construction refuses a rate of 0, a period of 0 in a table, a coefficient of 1 and a table that is too short,
each by name, and takes TC1. -/
theorem test_construct_refuses_breaking_configurations :
    State.construct { tc1 with sampleRateHz := 0 } = .refused .invalidConfig ∧
    State.construct { tc1 with dmcRateTable := List.replicate 16 0 } = .refused .invalidConfig ∧
    State.construct { tc1 with hpfCoeff := F64.ofNat 1 } = .refused .invalidConfig ∧
    State.construct { tc1 with pulsePeriod := .table [2, 4] } = .refused .invalidConfig ∧
    State.construct tc1 = .next start :=
  ⟨dif_neg (by decide +kernel), dif_neg (by decide +kernel), dif_neg (by decide +kernel), dif_neg (by decide +kernel),
    dif_pos tc1_accepted⟩

/-! ## Decoding: words written out bit by bit (kind, z, off, data) from rules R80 to R82 and V2.12 -/

theorem test_decode_pulse_writes :
    decode ⟨0b01_0_00000_10111111, 0⟩ = .ok (.wrP1Ctrl 0xBF) ∧
    decode ⟨0b01_0_00001_00001000, 0⟩ = .ok (.wrP1Sweep 0x08) ∧
    decode ⟨0b01_0_00010_00010011, 0⟩ = .ok (.wrP1Tlo 0x13) ∧
    decode ⟨0b01_0_00011_10010111, 0⟩ = .ok (.wrP1Thi 0x97) ∧
    decode ⟨0b01_0_00100_01111110, 0⟩ = .ok (.wrP2Ctrl 0x7E) ∧
    decode ⟨0b01_0_00101_10000001, 0⟩ = .ok (.wrP2Sweep 0x81) ∧
    decode ⟨0b01_0_00110_00100111, 0⟩ = .ok (.wrP2Tlo 0x27) ∧
    decode ⟨0b01_0_00111_11111000, 0⟩ = .ok (.wrP2Thi 0xF8) := by decide

theorem test_decode_triangle_writes :
    decode ⟨0b01_0_01000_10111111, 0⟩ = .ok (.wrTriLinear 0xBF) ∧
    decode ⟨0b01_0_01001_00001000, 0⟩ = .ok (.wrTriUnused 0x08) ∧
    decode ⟨0b01_0_01010_00010011, 0⟩ = .ok (.wrTriTlo 0x13) ∧
    decode ⟨0b01_0_01011_10010111, 0⟩ = .ok (.wrTriThi 0x97) := by decide

theorem test_decode_noise_writes :
    decode ⟨0b01_0_01100_10111111, 0⟩ = .ok (.wrNoiseCtrl 0xBF) ∧
    decode ⟨0b01_0_01101_00001000, 0⟩ = .ok (.wrNoiseUnused 0x08) ∧
    decode ⟨0b01_0_01110_00010011, 0⟩ = .ok (.wrNoisePeriod 0x13) ∧
    decode ⟨0b01_0_01111_10010111, 0⟩ = .ok (.wrNoiseLen 0x97) := by decide

theorem test_decode_dmc_writes :
    decode ⟨0b01_0_10000_10111111, 0⟩ = .ok (.wrDmcCtrl 0xBF) ∧
    decode ⟨0b01_0_10001_00001000, 0⟩ = .ok (.wrDmcLevel 0x08) ∧
    decode ⟨0b01_0_10010_00010011, 0⟩ = .ok (.wrDmcAddr 0x13) ∧
    decode ⟨0b01_0_10011_10010111, 0⟩ = .ok (.wrDmcLen 0x97) := by decide

theorem test_decode_control_writes :
    decode ⟨0b01_0_10101_10111111, 0⟩ = .ok (.wrStatus 0xBF) ∧
    decode ⟨0b01_0_10111_00001000, 0⟩ = .ok (.wrFrame 0x08) := by decide

theorem test_decode_unmapped_writes :
    decode ⟨0b01_0_10100_10111111, 0⟩ = .ok (.wrUnmapped14 0xBF) ∧
    decode ⟨0b01_0_10110_00001000, 0⟩ = .ok (.wrUnmapped16 0x08) ∧
    decode ⟨0b01_0_11000_00010011, 0⟩ = .ok (.wrUnmapped18 0x13) ∧
    decode ⟨0b01_0_11001_10010111, 0⟩ = .ok (.wrUnmapped19 0x97) ∧
    decode ⟨0b01_0_11010_01111110, 0⟩ = .ok (.wrUnmapped1A 0x7E) ∧
    decode ⟨0b01_0_11011_10000001, 0⟩ = .ok (.wrUnmapped1B 0x81) ∧
    decode ⟨0b01_0_11100_00100111, 0⟩ = .ok (.wrUnmapped1C 0x27) ∧
    decode ⟨0b01_0_11101_11111000, 0⟩ = .ok (.wrUnmapped1D 0xF8) ∧
    decode ⟨0b01_0_11110_10111111, 0⟩ = .ok (.wrUnmapped1E 0xBF) ∧
    decode ⟨0b01_0_11111_00001000, 0⟩ = .ok (.wrUnmapped1F 0x08) := by decide

theorem test_decode_reads_00_to_0F :
    decode ⟨0b00_0_00000_00000000, 0⟩ = .ok .rdOpen00 ∧
    decode ⟨0b00_0_00001_00000000, 0⟩ = .ok .rdOpen01 ∧
    decode ⟨0b00_0_00010_00000000, 0⟩ = .ok .rdOpen02 ∧
    decode ⟨0b00_0_00011_00000000, 0⟩ = .ok .rdOpen03 ∧
    decode ⟨0b00_0_00100_00000000, 0⟩ = .ok .rdOpen04 ∧
    decode ⟨0b00_0_00101_00000000, 0⟩ = .ok .rdOpen05 ∧
    decode ⟨0b00_0_00110_00000000, 0⟩ = .ok .rdOpen06 ∧
    decode ⟨0b00_0_00111_00000000, 0⟩ = .ok .rdOpen07 ∧
    decode ⟨0b00_0_01000_00000000, 0⟩ = .ok .rdOpen08 ∧
    decode ⟨0b00_0_01001_00000000, 0⟩ = .ok .rdOpen09 ∧
    decode ⟨0b00_0_01010_00000000, 0⟩ = .ok .rdOpen0A ∧
    decode ⟨0b00_0_01011_00000000, 0⟩ = .ok .rdOpen0B ∧
    decode ⟨0b00_0_01100_00000000, 0⟩ = .ok .rdOpen0C ∧
    decode ⟨0b00_0_01101_00000000, 0⟩ = .ok .rdOpen0D ∧
    decode ⟨0b00_0_01110_00000000, 0⟩ = .ok .rdOpen0E ∧
    decode ⟨0b00_0_01111_00000000, 0⟩ = .ok .rdOpen0F := by decide

theorem test_decode_reads_10_to_1F :
    decode ⟨0b00_0_10000_00000000, 0⟩ = .ok .rdOpen10 ∧
    decode ⟨0b00_0_10001_00000000, 0⟩ = .ok .rdOpen11 ∧
    decode ⟨0b00_0_10010_00000000, 0⟩ = .ok .rdOpen12 ∧
    decode ⟨0b00_0_10011_00000000, 0⟩ = .ok .rdOpen13 ∧
    decode ⟨0b00_0_10100_00000000, 0⟩ = .ok .rdOpen14 ∧
    decode ⟨0b00_0_10101_00000000, 0⟩ = .ok .rdStatus ∧
    decode ⟨0b00_0_10110_00000000, 0⟩ = .ok .rdOpen16 ∧
    decode ⟨0b00_0_10111_00000000, 0⟩ = .ok .rdOpen17 ∧
    decode ⟨0b00_0_11000_00000000, 0⟩ = .ok .rdOpen18 ∧
    decode ⟨0b00_0_11001_00000000, 0⟩ = .ok .rdOpen19 ∧
    decode ⟨0b00_0_11010_00000000, 0⟩ = .ok .rdOpen1A ∧
    decode ⟨0b00_0_11011_00000000, 0⟩ = .ok .rdOpen1B ∧
    decode ⟨0b00_0_11100_00000000, 0⟩ = .ok .rdOpen1C ∧
    decode ⟨0b00_0_11101_00000000, 0⟩ = .ok .rdOpen1D ∧
    decode ⟨0b00_0_11110_00000000, 0⟩ = .ok .rdOpen1E ∧
    decode ⟨0b00_0_11111_00000000, 0⟩ = .ok .rdOpen1F := by decide

theorem test_decode_advance : decode ⟨0b10_0_00000_00000000, 59680⟩ = .ok (.adv 59680) := by decide

theorem test_decode_invalid : decode ⟨0b11_0_00000_00000000, 0⟩ = .error .reservedKind ∧
    decode ⟨0b00_1_00000_00000000, 0⟩ = .error .bit13Set ∧
    decode ⟨0b00_0_10101_00000001, 0⟩ = .error .readDataNonzero ∧
    decode ⟨0b10_0_00001_00000000, 0⟩ = .error .advanceFieldNonzero := by decide

/-- V2.12: `TONE 0x00, 0x013, 1` is 0x4213 then 0x4308. -/
theorem test_tone_words : (AsmLine.tone 0x00 0x013 1).assemble = some [⟨0x4213, 0⟩, ⟨0x4308, 0⟩] := by decide

/-! ## One operation each (V2.5, V2.6, V2.8, V2.11, P1 to P4) -/

/-- `start` with the four length counters enabled. -/
def enabledStart : State := { start with apu := { start.apu with
  p1 := { start.apu.p1 with len := { start.apu.p1.len with enabled := true } }
  p2 := { start.apu.p2 with len := { start.apu.p2.len with enabled := true } }
  tri := { start.apu.tri with len := { start.apu.tri.len with enabled := true } }
  noise := { start.apu.noise with len := { start.apu.noise.len with enabled := true } } } }

/-- `start` with a DMC that has bytes left and its interrupt latched. -/
def latchedStart : State :=
  start.setDmc { start.apu.dmc with bytesRemaining := 3, irqLatched := true, irqEnabled := true }

theorem test_wrP1Ctrl : after (.wrP1Ctrl 0xBF) start (fun t => (t.apu.p1.duty, t.apu.p1.halt, t.apu.p1.env, t.apu.p1.sh.sh0))
    = some (2, true, ⟨false, 0, 0, true, true, 15⟩, 0xBF) := by decide
theorem test_wrP2Ctrl : after (.wrP2Ctrl 0x47) start (fun t => (t.apu.p2.duty, t.apu.p2.halt, t.apu.p2.env, t.apu.p1.duty))
    = some (1, false, ⟨false, 0, 0, false, false, 7⟩, 0) := by decide
theorem test_wrP1Sweep : after (.wrP1Sweep 0x08) start (fun t => t.apu.p1.sweep)
    = some ⟨0, 0, 0, true, false, true, .ones⟩ := by decide
theorem test_wrP2Sweep : after (.wrP2Sweep 0xB2) start (fun t => t.apu.p2.sweep)
    = some ⟨0, 3, 2, false, true, true, .twos⟩ := by decide
theorem test_wrP1Tlo : after (.wrP1Tlo 0x13) start (fun t => t.apu.p1.timer) = some ⟨40, 2⟩ := by decide +kernel
theorem test_wrP2Tlo : after (.wrP2Tlo 0xFF) start (fun t => t.apu.p2.timer) = some ⟨512, 2⟩ := by decide +kernel
theorem test_wrP1Thi : after (.wrP1Thi 0x08) enabledStart (fun t => (t.apu.p1.len, t.apu.p1.env.start, t.apu.p1.step))
    = some (⟨true, 254, 254⟩, true, 0) := by decide
theorem test_wrP1Thi_disabled : after (.wrP1Thi 0x0F) start (fun t => (t.apu.p1.len, t.apu.p1.timer))
    = some (⟨false, 0, 0⟩, ⟨3586, 2⟩) := by decide +kernel
theorem test_wrP2Thi : after (.wrP2Thi 0x00) enabledStart (fun t => t.apu.p2.len) = some ⟨true, 10, 10⟩ := by decide
theorem test_wrTriLinear : after (.wrTriLinear 0x84) start (fun t => (t.apu.tri.control, t.apu.tri.linLength, t.apu.tri.linear))
    = some (true, 4, 0) := by decide
theorem test_wrTriUnused : exec (.wrTriUnused 0xFF) start
    = .next (start.setTri { start.apu.tri with sh := ⟨0, 0xFF, 0, 0⟩ }) := rfl
theorem test_wrTriTlo : after (.wrTriTlo 0x27) start (fun t => t.apu.tri.timer) = some ⟨40, 1⟩ := by decide +kernel
theorem test_wrTriThi : after (.wrTriThi 0xF8) enabledStart (fun t => (t.apu.tri.len.remaining, t.apu.tri.linReload))
    = some (30, true) := by decide
theorem test_wrNoiseCtrl : after (.wrNoiseCtrl 0x1F) start (fun t => (t.apu.noise.halt, t.apu.noise.env))
    = some (false, ⟨false, 0, 0, false, true, 15⟩) := by decide
theorem test_wrNoiseUnused : exec (.wrNoiseUnused 0xFF) start
    = .next (start.setNoise { start.apu.noise with sh := ⟨0, 0xFF, 0, 0⟩ }) := rfl
theorem test_wrNoisePeriod : after (.wrNoisePeriod 0x8F) start (fun t => (t.apu.noise.mode, t.apu.noise.timer))
    = some (true, ⟨4068, 4⟩) := by decide +kernel
theorem test_wrNoiseLen : after (.wrNoiseLen 0x10) enabledStart (fun t => (t.apu.noise.len.remaining, t.apu.noise.env.start))
    = some (20, true) := by decide
theorem test_wrDmcCtrl : after (.wrDmcCtrl 0x8F) start (fun t => (t.apu.dmc.timer, t.apu.dmc.irqEnabled, t.apu.dmc.loop))
    = some (⟨54, 428⟩, true, false) := by decide +kernel
theorem test_wrDmcCtrl_acknowledges : after (.wrDmcCtrl 0x0F) latchedStart (fun t => (t.irqLine, t.apu.dmc.bytesRemaining))
    = some (false, 3) := by decide
theorem test_wrDmcLevel : after (.wrDmcLevel 0xFF) start (fun t => t.apu.dmc.level) = some 127 := by decide
theorem test_wrDmcAddr : after (.wrDmcAddr 0xFF) start (fun t => (t.apu.dmc.sampleAddress, t.apu.dmc.curAddress))
    = some (0xFFC0, 0xC000) := by decide
theorem test_wrDmcLen : after (.wrDmcLen 0xFF) start (fun t => (t.apu.dmc.sampleLength, t.apu.dmc.bytesRemaining))
    = some (4081, 0) := by decide
theorem test_wrStatus_enables_dmc : after (.wrStatus 0x10) start (fun t => (t.apu.dmc.bytesRemaining, t.apu.dmc.curAddress))
    = some (1, 0xC000) := by decide
theorem test_wrStatus_disables_dmc : after (.wrStatus 0x0F) latchedStart
    (fun t => (t.apu.dmc.bytesRemaining, t.irqLine, t.apu.p1.len.enabled, t.apu.noise.len.enabled))
    = some (0, false, true, true) := by decide
theorem test_wrFrame_five : after (.wrFrame 0x80) start (fun t => t.apu.fs) = some ⟨.fiveStep, 0, true, ⟨5968, 7460⟩⟩ := by
  decide +kernel
theorem test_wrFrame_bit6_ignored : after (.wrFrame 0x40) start (fun t => t.apu.fs)
    = some ⟨.fourStep, 0, false, ⟨7460, 7460⟩⟩ := by decide +kernel
theorem test_unmapped_writes : exec (.wrUnmapped14 0xAA) start = .next start ∧
    exec (.wrUnmapped16 0x55) start = .next start ∧ exec (.wrUnmapped1F 0x00) start = .next start := ⟨rfl, rfl, rfl⟩
theorem test_rdStatus_at_reset : after .rdStatus start (fun t => t.reads) = some [0x00] := by decide
theorem test_rdStatus_shows_bytes : after .rdStatus latchedStart (fun t => t.reads) = some [0x10] := by decide
theorem test_rdOpen00 : after .rdOpen00 start (fun t => (t.reads.length, t.openBusDraws)) = some (1, 1) := by decide
theorem test_adv_zero : after (.adv 0) start id = some start := by decide +kernel
/-- Section 0 and V2.10: the first sample from reset. -/
theorem test_adv_first_sample : after (.adv 40) start (fun t => (t.samples, t.apu.filt.lp, t.apu.filt.dc)) =
    some ([bits 0x3FC4E743D6F77730], bits 0x3FC50227E10D4AC3, bits 0x3F4AE40A15D392EC) := by decide +kernel

/-! ## Units -/

/-- V2.1, and the console rate: the third of three advances by 100. -/
theorem test_timer : Timer.advance tc1 ⟨4, 5⟩ 13 = (⟨4, 4⟩, 3) ∧ Timer.advance tc1 ⟨4, 4⟩ 0 = (⟨4, 4⟩, 0) ∧
    Timer.advance tc1 ⟨4, 4⟩ 4 = (⟨4, 4⟩, 1) ∧
    (Timer.advance tc1 ⟨596591 / 14700, 596591 / 14700⟩ 300) = (⟨596591 / 14700, 90682 / 3675⟩, 7) ∧
    Timer.setPeriod tc1 ⟨2, 2⟩ 0 = ⟨1, 2⟩ := by decide +kernel

/-- V2.2: four ticks in one call; V1.6: the override with the timer mid-step. -/
theorem test_frame_sequencer :
    (FrameSequencer.advance tc1 start.apu.fs 29840).toOption =
      some (⟨.fourStep, 0, false, ⟨7460, 7460⟩⟩, [⟨true, true⟩, ⟨true, false⟩, ⟨true, true⟩, ⟨true, false⟩]) ∧
    (FrameSequencer.advance tc1 ⟨.fiveStep, 0, true, ⟨5968, 7360⟩⟩ 40).toOption =
      some (⟨.fiveStep, 0, false, ⟨5968, 7320⟩⟩, [⟨true, true⟩]) := by
  decide +kernel

/-- V2.3, param 2 without loop and param 0 with loop. -/
theorem test_envelope :
    (List.range 7).map (fun n => (Envelope.advance^[n + 1] ⟨true, 0, 0, false, false, 2⟩).decayLevel)
      = [15, 15, 15, 14, 14, 14, 13] ∧
    (Envelope.advance^[17] ⟨true, 0, 0, true, false, 0⟩).decayLevel = 15 := by decide

/-- V2.4. -/
theorem test_sweep_target_and_mute :
    (Sweep.mk 0 0 1 false false false .ones).mute 15 = true ∧ (Sweep.mk 0 0 1 false false false .ones).mute 16 = false ∧
    (Sweep.mk 0 0 1 false false false .ones).mute 2730 = true ∧ (Sweep.mk 0 0 0 false false false .ones).mute 2048 = true ∧
    (Sweep.mk 0 0 0 false false false .ones).mute 2047 = false ∧ (Sweep.mk 0 0 0 true true false .ones).target 64 = -1 ∧
    (Sweep.mk 0 0 2 true true false .ones).target 64 = 47 ∧ (Sweep.mk 0 0 2 true true false .twos).target 64 = 48 := by
  decide

/-- Pulse 1 of V1.7: counter 3, divider 3, shift 2, negate, period 64. -/
def sweeping : PulseChannel :=
  { start.apu.p1 with timer := ⟨64, 64⟩, sweep := ⟨3, 3, 2, true, true, false, .ones⟩ }

/-- V1.7: the period after the third and the fourth half frame of this spec's reading. -/
theorem test_sweep_writes_back :
    ((PulseChannel.onHalfFrame tc1)^[3] sweeping).timer = ⟨64, 64⟩ ∧
    ((PulseChannel.onHalfFrame tc1)^[4] sweeping).timer = ⟨47, 64⟩ := by decide +kernel

/-- V2.6: the linear counter after five quarter frames. -/
theorem test_linear_counter :
    (List.range 5).map (fun n => (TriangleChannel.onQuarterFrame^[n + 1]
      { start.apu.tri with linLength := 3, linReload := true }).linear) = [3, 2, 1, 0, 0] := by decide

/-- V2.7 and V1.4: the first registers of each mode. -/
theorem test_lfsr : lfsrSteps true 1 1 = 0x4000 ∧ lfsrSteps true 4 1 = 0x0800 ∧ lfsrSteps false 8 1 = 0x0080 := by decide

/-- V2.8: the wrap of the address, the interrupt at the fetch of the last byte, the loop. -/
theorem test_dmc_memory_unit :
    let bus : Bus := ⟨[(0xC000, 0xFF), (0xFFFF, 0x00)], 0, []⟩
    let d := start.apu.dmc
    let wrapped := (({ d with curAddress := 0xFFFF, bytesRemaining := 2 } : DmcChannel).tick bus).1
    let last := (({ d with bytesRemaining := 1, irqEnabled := true } : DmcChannel).tick bus).1
    let looped := (({ d with bytesRemaining := 1, irqEnabled := true, loop := true, sampleLength := 3 } :
      DmcChannel).tick bus).1
    (wrapped.buffer, wrapped.curAddress, wrapped.bytesRemaining) = (some 0x00, 0x8000, 1) ∧
    (last.buffer, last.bytesRemaining, last.irqLatched) = (some 0xFF, 0, true) ∧
    (looped.bytesRemaining, looped.curAddress, looped.irqLatched) = (3, 0xC000, false) := by decide

/-- V2.8: the level's formulas at their corners. -/
theorem test_dmc_level : (deltaLevel true 124, deltaLevel true 126, deltaLevel true 127) = (125, 125, 125) ∧
    (deltaLevel false 0, deltaLevel false 1, deltaLevel false 3, deltaLevel false 16) = (2, 2, 2, 14) := by decide

/-- V2.9, and alpha of section 0. -/
theorem test_mixer : pulseOut 15 0 = bits 0x3FC31EC7913817A7 ∧ pulseOut 15 15 = bits 0x3FD08AFCB95D877D ∧
    tndOut 15 0 0 = bits 0x3FCF8A6E15C297FB ∧ tndOut 0 15 0 = bits 0x3FC653BD648699CA ∧
    tndOut 0 0 127 = bits 0x3FE2605E3AC462DA ∧ mix 8 4 10 6 60 = bits 0x3FE376596FE85283 ∧
    mix 15 15 15 15 127 = bits 0x3FEFFFFEA37A55B4 ∧ tc1.lpfAlpha = bits 0x3FE5507745C62A52 := by decide +kernel

/-- V2.10, the first sample. -/
theorem test_filter : FilterState.advance tc1 ⟨bits 0, bits 0⟩ (bits 0x3FD08AFCB95D877D) =
    (⟨bits 0x3FC6099DF4C57DBA, bits 0x3F4C35451058F2E1⟩, bits 0x3FC5ED68AFB524C7) := by decide +kernel

/-! ## Witnesses: for each obligation with hypotheses, states and operands that meet them -/

/-- For every statement under a well-formed configuration, `ConstructionMeetsTheInvariants` among them. -/
theorem witness_config_wellFormed : tc1.WellFormed := tc1.check_iff.mp tc1_accepted

/-- Both cases of `ConstructionMeetsTheInvariants`. -/
theorem witness_ConstructionMeetsTheInvariants :
    tc1.WellFormed ∧ ¬({ tc1 with sampleRateHz := 0 } : Config).WellFormed :=
  ⟨witness_config_wellFormed, test_wf_config_refusals.1⟩

/-- A configuration with the other period policy. -/
def disabling : Config := { tc1 with lowPeriodPolicy := .disable, timerMinPeriod := 8 }

/-- The premise of `NoGoodStateReachesFatal`, `EveryStepKeepsTheRanges`, `AdvanceRunsOneSampleStepPerTick` and
`AdvanceChunkingLaw`. -/
theorem witness_inv : start.Inv := ⟨by decide, Apu.construct_ok start.cfg_wellFormed⟩

theorem witness_matchesShadow : start.MatchesShadow where
  p1 := by refine ⟨?_, ?_, ?_, ?_, ?_, ?_, ?_, ?_, ?_⟩ <;> decide
  p2 := by refine ⟨?_, ?_, ?_, ?_, ?_, ?_, ?_, ?_, ?_⟩ <;> decide
  tri := ⟨by decide, by decide, by decide +kernel⟩
  noise := ⟨by decide, by decide, by decide, by decide, by decide, ⟨4, by decide, by decide +kernel⟩⟩
  dmc := ⟨by decide, by decide, ⟨428, by decide, by decide +kernel⟩, by decide, by decide⟩
  framePeriod := .inl (by decide +kernel)
  samplePeriod := by decide +kernel
  convention1 := by decide
  convention2 := by decide

theorem witness_samplesFinite : start.SamplesFinite :=
  ⟨⟨by decide, by decide +kernel, by decide, by decide +kernel⟩, fun _ h => nomatch h⟩

theorem witness_dmcInUpperHalf : start.DmcInUpperHalf :=
  ⟨by unfold InUpperHalf; decide +kernel, by unfold InUpperHalf; decide, by unfold InUpperHalf; decide, fun _ h => nomatch h⟩

/-- A good state with an operation pending. -/
def queued : State := { start with pending := [⟨0x551F, 0⟩] }

/-- All the premises of `EveryStepKeepsTheRanges`, `EveryStepKeepsFieldsMatchingShadowBytes`, `DmcReadsStayInTheUpperHalf`,
`EveryStepKeepsSamplesFinite` and `NoGoodStateReachesFatal`, together on one state. -/
theorem witness_step_invariants : queued.Inv ∧ queued.MatchesShadow ∧ queued.DmcInUpperHalf ∧ queued.SamplesFinite ∧
    ∃ t, step queued = .next t := by
  obtain ⟨a1, a2⟩ := witness_inv
  obtain ⟨b1, b2, b3, b4, b5, b6, b7, b8, b9⟩ := witness_matchesShadow
  obtain ⟨c1, c2, c3, c4⟩ := witness_dmcInUpperHalf
  obtain ⟨d1, d2⟩ := witness_samplesFinite
  exact ⟨⟨a1, a2⟩, ⟨b1, b2, b3, b4, b5, b6, b7, b8, b9⟩, ⟨c1, c2, c3, c4⟩, ⟨d1, d2⟩, _, rfl⟩

/-- An outcome that is a next state is one. -/
theorem nextOf_isSome {o : Host.Outcome State Fault Refusal} (h : (nextOf o).isSome = true) : ∃ t, o = .next t := by
  cases o with
  | next t => exact ⟨t, rfl⟩
  | fault f => simp [nextOf] at h
  | refused r => simp [nextOf] at h

/-- An `Except` that answers does so with a value. -/
theorem ok_of_isSome {α : Type} {x : Except Fault α} (h : x.toOption.isSome = true) : ∃ a, x = .ok a := by
  cases x with
  | ok a => exact ⟨a, rfl⟩
  | error e => simp [Except.toOption] at h

theorem witness_DecodeOfEncodeIsTheOperation : (Instr.adv 400).wellFormed = true := rfl

theorem witness_EncodeOfDecodeIsTheWord : decode ⟨0x40BF, 7⟩ = .ok (.wrP1Ctrl 0xBF) ∧ decode ⟨0x8000, 7⟩ = .ok (.adv 7) := by
  decide

/-- The four ways to be invalid at the least word of each, a pending invalid word, and the greatest and least valid
words. -/
theorem witness_InvalidWordsRefusedOthersHaveOneRow :
    decode ⟨0xC000, 0⟩ = .error .reservedKind ∧ decode ⟨0x2000, 0⟩ = .error .bit13Set ∧
    decode ⟨0x0001, 0⟩ = .error .readDataNonzero ∧ decode ⟨0x8001, 0⟩ = .error .advanceFieldNonzero ∧
    ({ start with pending := [⟨0xFFFF, 0⟩] } : State).pending = ⟨0xFFFF, 0⟩ :: [] ∧
    decode ⟨0xFFFF, 0⟩ = .error .bit13Set ∧ decode ⟨0x0000, 0⟩ = .ok .rdOpen00 ∧ decode ⟨0x8000, 0⟩ = .ok (.adv 0) := by
  decide

theorem witness_StepRunsTheNextOperation :
    ({ start with pending := [⟨0x551F, 0⟩, ⟨0x1500, 0⟩] } : State).pending = ⟨0x551F, 0⟩ :: [⟨0x1500, 0⟩] ∧
    decode ⟨0x551F, 0⟩ = .ok (.wrStatus 0x1F) ∧ decodeTableWord 16 0x8000 = some (.adv 0) ∧ start.pending = [] := by
  decide

theorem witness_AssemblyLinesStandForTheirWords :
    (0x08 = 0x00 ∨ 0x08 = 0x04 ∨ 0x08 = 0x08) ∧ 2047 < 2048 ∧ 31 < 32 ∧ (AsmLine.tone 0x10 0 0).wellFormed = false := by
  decide

/-- For `PulseTimerHighWriteLoadsLengthAndRestarts`, `TriangleTimerWritesSetPeriodLengthAndReload`,
`NoisePeriodAndLengthWrites` and `DmcControlWriteSetsRateLoopAndIrq`: both cases of each length load, the counter enabled
and disabled. -/
theorem witness_length_loads :
    enabledStart.apu.p1.len.enabled = true ∧ enabledStart.apu.p2.len.enabled = true ∧
    enabledStart.apu.tri.len.enabled = true ∧ enabledStart.apu.noise.len.enabled = true ∧
    start.apu.p1.len.enabled = false ∧ start.apu.p2.len.enabled = false ∧ start.apu.tri.len.enabled = false ∧
    start.apu.noise.len.enabled = false :=
  ⟨rfl, rfl, rfl, rfl, rfl, rfl, rfl, rfl⟩

theorem witness_OpenBusReadsReturnAByteAndChangeNothing : Instr.rdOpen1F ∈ [Instr.rdOpen00, .rdOpen1E, .rdOpen1F] := by
  decide

/-- For `AdvanceFrame`, `AdvanceChunkingLaw` and `AdvanceRunsOneSampleStepPerTick`. -/
theorem witness_advance : start.Inv ∧ ∃ t, exec (.adv 40) start = .next t :=
  ⟨witness_inv, nextOf_isSome (by decide +kernel)⟩

theorem witness_OnlyAdvanceMovesTime : (∀ n, Instr.rdStatus ≠ .adv n) ∧ ∃ t, exec .rdStatus start = .next t :=
  ⟨by simp, _, rfl⟩

theorem equal_accepted : ({ tc1 with timerMinPeriod := 40 } : Config).check = true := by decide +kernel

theorem clamped_accepted : ({ tc1 with timerMinPeriod := 41 } : Config).check = true := by decide +kernel

theorem inert_accepted : ({ tc1 with timerMinPeriod := 41, lowPeriodPolicy := .disable } : Config).check = true := by
  decide +kernel

/-- A block built with a minimum period of 40, which is CPS. -/
def equalStart : State := State.ofConfig ⟨_, equal_accepted⟩

/-- A block built with a minimum period of 41, one above CPS. -/
def clampedStart : State := State.ofConfig ⟨_, clamped_accepted⟩

/-- The same where the minimum makes every shorter timer inert. -/
def inertStart : State := State.ofConfig ⟨_, inert_accepted⟩

/-- The cases at the last minimum period that CPS meets and the first it does not, the sample clock as built: CPS whatever
the minimum (rules R128, R380). -/
theorem witness_SamplesAfterCycles :
    (equalStart.Inv ∧ equalStart.apu.sampleClock = ⟨equalStart.cfg.cps, equalStart.cfg.cps⟩ ∧
      (equalStart.cfg.timerMinPeriod : Q) ≤ equalStart.cfg.cps ∧
      after (.adv 39) equalStart (fun t => t.samples.length) = some 0 ∧
      after (.adv 40) equalStart (fun t => t.samples.length) = some 1) ∧
    (clampedStart.Inv ∧ clampedStart.apu.sampleClock = ⟨clampedStart.cfg.cps, clampedStart.cfg.cps⟩ ∧
      clampedStart.cfg.cps < (clampedStart.cfg.timerMinPeriod : Q) ∧ clampedStart.cfg.lowPeriodPolicy = .clamp ∧
      after (.adv 39) clampedStart (fun t => t.samples.length) = some 0 ∧
      after (.adv 40) clampedStart (fun t => t.samples.length) = some 1) ∧
    (inertStart.Inv ∧ inertStart.apu.sampleClock = ⟨inertStart.cfg.cps, inertStart.cfg.cps⟩ ∧
      inertStart.cfg.cps < (inertStart.cfg.timerMinPeriod : Q) ∧ inertStart.cfg.lowPeriodPolicy = .disable ∧
      after (.adv 41) inertStart State.samples = some []) :=
  ⟨⟨⟨by decide, Apu.construct_ok equalStart.cfg_wellFormed⟩, by decide +kernel, by decide +kernel, by decide +kernel,
      by decide +kernel⟩,
    ⟨⟨by decide, Apu.construct_ok clampedStart.cfg_wellFormed⟩, by decide +kernel, by decide +kernel, by decide +kernel,
      by decide +kernel, by decide +kernel⟩,
    ⟨by decide, Apu.construct_ok inertStart.cfg_wellFormed⟩, by decide +kernel, by decide +kernel, by decide +kernel,
    by decide +kernel⟩

/-- For `ChannelsDoNotReadEachOther`, `SampleStepFiltersTheMixAndEmits` and `SampleStepAdvancesEveryChannel`: two blocks that differ in one channel, each
with a sample step. -/
theorem witness_sampleStep : start.cfg = latchedStart.cfg ∧ start.apu.fs = latchedStart.apu.fs ∧
    start.apu.p1 = latchedStart.apu.p1 ∧ start.apu.dmc ≠ latchedStart.apu.dmc ∧
    (∃ t, sampleStep start = .ok t) ∧ ∃ t, sampleStep latchedStart = .ok t :=
  ⟨rfl, rfl, rfl, by decide +kernel, ok_of_isSome (by decide +kernel), ok_of_isSome (by decide +kernel)⟩

theorem witness_PeriodPolicyClampsOrStores : tc1.lowPeriodPolicy = .clamp ∧ disabling.lowPeriodPolicy = .disable ∧
    ((⟨2, 2⟩ : Timer).setPeriod disabling 7).inert disabling = true ∧
    ((⟨2, 2⟩ : Timer).setPeriod disabling 8).inert disabling = false := by decide +kernel

/-- For `TimerAdvanceCountsTheLeastTicks`, `TimerClosedFormIsTheSourceLoop` and `TimerChunkingLaw`: an inert timer, one
that is not and ticks on the boundary, `n = 0`, and enough turns of the loop. -/
theorem witness_timers : (⟨7, 7⟩ : Timer).inert disabling = true ∧ (⟨4, 4⟩ : Timer).inert tc1 = false ∧
    (0 : Q) < 4 ∧ (0 : Q) ≤ 0 ∧ (Timer.advance tc1 ⟨4, 4⟩ 4).2 ≤ 1 := by decide +kernel

/-- A period change at position 15: just before the old position drains, and as it does (V1.1). -/
theorem witness_PeriodChangeWaitsForTheOldPosition : (0 : Q) < (⟨16, 15⟩ : Timer).position ∧
    ((⟨16, 15⟩ : Timer).setPeriod tc1 4).inert tc1 = false ∧ 0 < ((⟨16, 15⟩ : Timer).setPeriod tc1 4).period ∧
    (14 : Q) < 15 ∧ (15 : Q) ≤ 15 := by decide +kernel

/-- For `FrameSequencerReturnsEntriesInOrder`, `FiveStepOverrideFiresOnce` and `FrameStepOutOfRangeIsFatal`, at the last
step of a mode and the first one past it. -/
theorem witness_frame_sequencer : start.apu.fs.step < start.apu.fs.mode.steps ∧ start.apu.fs.pending5 = false ∧
    (FrameSequencer.mk .fiveStep 4 true ⟨5968, 1⟩).step < FrameMode.fiveStep.steps ∧
    FrameMode.fourStep.steps ≤ (FrameSequencer.mk .fourStep 4 false ⟨7460, 1⟩).step := by decide

theorem witness_EnvelopeDecaysAfterRestart : start.apu.p1.env.restart.start = true ∧ start.apu.p1.env.start = false ∧
    (Envelope.mk false 3 0 true false 3).start = false ∧ 3 ≤ (Envelope.mk false 3 0 true false 3).divider := by decide

/-- The four courses of a half-frame tick: reload, count, fire with a write-back, and fire without (muted at 15, the
target at 0xFFF, and shift 0). -/
theorem witness_SweepHalfFrameTick : (⟨64, 64⟩ : Timer).period = ((64 : Nat) : Q) ∧
    (Sweep.mk 0 3 2 true true true .ones).reload = true ∧ (Sweep.mk 1 3 2 true true false .ones).counter ≠ 0 ∧
    (Sweep.mk 0 3 2 true true false .ones).writesBack ⟨64, 64⟩ = true ∧
    (Sweep.mk 0 3 2 true true false .ones).writesBack ⟨16, 64⟩ = true ∧
    (Sweep.mk 0 3 2 true true false .ones).writesBack ⟨15, 64⟩ = false ∧
    (Sweep.mk 0 3 1 false true false .ones).writesBack ⟨2730, 64⟩ = false ∧
    (Sweep.mk 0 3 1 false true false .ones).writesBack ⟨2729, 64⟩ = true ∧
    (Sweep.mk 0 3 0 true true false .ones).writesBack ⟨64, 64⟩ = false := by decide +kernel

/-- Pulse 1 sounding: duty 2 at a high step, constant level 15, period 40. -/
def sounding : PulseChannel := { start.apu.p1 with
  timer := ⟨40, 2⟩, duty := 2, step := 1, halt := true, env := ⟨false, 0, 0, true, true, 15⟩ }

theorem witness_PulseAmplitude : tc1.WellFormed ∧ sounding.Ok tc1 ∧ sounding.muted = false ∧ start.apu.p1.muted = true ∧
    (sounding.amp tc1).toOption = some 15 := by
  refine ⟨witness_config_wellFormed, ⟨⟨by decide +kernel, by decide +kernel, fun _ => by decide +kernel⟩,
    ⟨40, by decide +kernel⟩, by decide, by decide, ⟨by decide, by decide, by decide⟩, ⟨by decide, by decide, by decide⟩,
    ⟨by decide, by decide, by decide⟩⟩, by decide +kernel, by decide +kernel, by decide +kernel⟩

theorem witness_LinearCounterReloadsAndCountsDown : start.apu.tri.linReload = false ∧
    (start.apu.tri.writeLinear 0x03).control = false ∧ (start.apu.tri.writeLinear 0x83).control = true ∧
    ({ start.apu.tri with linReload := true } : TriangleChannel).linReload = true := by decide

/-- A triangle with both counters above 0, period 1 and position 1. -/
def running : TriangleChannel := { start.apu.tri with len := ⟨true, 254, 254⟩, linear := 1 }

/-- Running, frozen by the length counter, frozen by the linear counter alone, and frozen by the quarter frame that brings
the linear counter to 0. -/
theorem witness_TriangleFreezesAndHoldsItsLevel : (0 < running.linear ∧ 0 < running.len.remaining) ∧
    (running.sampleWork tc1 []).step = 8 ∧ (running.sampleWork tc1 [⟨true, false⟩]).step = 0 ∧
    start.apu.tri.len.remaining = 0 ∧
    ({ start.apu.tri with len := ⟨true, 254, 254⟩ } : TriangleChannel).linear = 0 ∧ start.apu.tri.linReload = false := by
  decide +kernel

theorem witness_LfsrStepShiftsInTheTapXor : start.apu.noise.lfsr ≠ 0 ∧ 13 < 14 := by decide

theorem witness_LfsrPeriods : (0 < 92 ∧ 92 < 93) ∧ 0 < 32766 ∧ 32766 < 32767 := by decide

theorem witness_TriangleNoiseAndDmcAmplitudes : start.apu.tri.Ok tc1 ∧ start.apu.noise.Ok tc1 ∧ start.apu.dmc.Ok tc1 :=
  ⟨witness_inv.apu.tri, witness_inv.apu.noise, witness_inv.apu.dmc⟩

/-- A full buffer, no byte left, one byte left, and more. -/
theorem witness_DmcMemoryUnitFetches : ({ start.apu.dmc with buffer := some 0xAA } : DmcChannel).buffer ≠ none ∧
    start.apu.dmc.bytesRemaining = 0 ∧ latchedStart.apu.dmc.buffer = none ∧ 0 < latchedStart.apu.dmc.bytesRemaining ∧
    ({ latchedStart.apu.dmc with bytesRemaining := 1 } : DmcChannel).bytesRemaining = 1 := by decide

theorem witness_DmcPlaysAByteLeastBitFirst : start.apu.dmc.bitsLeft = 8 ∧
    ({ start.apu.dmc with buffer := some 0xFF } : DmcChannel).buffer = some 0xFF ∧ 7 < 8 := by decide

theorem witness_HostStoreIsSeenByTheDmc : (0xC001 : Addr) ≠ 0xC000 ∧ Memory.wf start.bus.mem = true ∧
    Memory.wf (start.hostStore 0xC000 0xFF).bus.mem = true := by decide

/-- A DMC about to fetch the last byte of its sample, with the interrupt enabled and the byte in memory. -/
def lastByte : State := ({ start with bus := ⟨[(0xC000, 0xFF)], 0, []⟩ } : State).setDmc
  { start.apu.dmc with bytesRemaining := 1, irqEnabled := true, timer := ⟨428, 1⟩ }

theorem witness_IrqIsSetOnlyByTheEndOfASample : lastByte.irqLine = false ∧
    after (.adv 40) lastByte (fun t => (t.irqLine, t.bus.log, t.apu.dmc.bytesRemaining)) = some (true, [0xC000], 0) := by
  decide +kernel

/-- The two clearing writes, and a write that does not clear. -/
theorem witness_IrqIsClearedByExactlyTwoWrites : latchedStart.irqLine = true ∧
    after (.wrStatus 0x0F) latchedStart State.irqLine = some false ∧
    after (.wrDmcCtrl 0x7F) latchedStart State.irqLine = some false ∧
    after (.wrStatus 0x10) latchedStart State.irqLine = some true ∧
    after (.wrDmcCtrl 0x80) latchedStart State.irqLine = some true := by decide

/-- The greatest finite datum, and a tie between two data: 2^53 + 1 rounds to the even 2^53. -/
theorem witness_RoundingIsToTheNearestEven :
    |(F64.mk 0x7FEFFFFFFFFFFFFF#64).toRat| ≤ (F64.mk 0x7FEFFFFFFFFFFFFF#64).toRat ∧ (F64.mk 0x7FEFFFFFFFFFFFFF#64).isFinite = true ∧
    F64.round false 9007199254740993 = bits 0x4340000000000000 ∧ (bits 0x4340000000000001).toRat = 9007199254740994 := by
  decide +kernel

theorem witness_MixerRanges : 15 ≤ 15 ∧ 127 ≤ 127 ∧ (mix 15 15 15 15 127).toRat < 1 := by decide +kernel

end Sys2Proof.Tests
end

section
/-! PROOFS. Binary64 rounding (rule R14): what the rounding to an integer, the exponent and the packing of a datum
give, and from them that `F64.round` takes the nearest datum, ties to even. -/

namespace Sys2Proof

/-! ### The rounding to an integer -/

/-- Half-even rounding is at most one half away, and an odd result is nearer than that. -/
theorem roundHalfEven_spec (n : Nat) {d : Nat} (hd : 0 < d) :
    |(roundHalfEven n d : Q) - n / d| ≤ 1 / 2 ∧
      (|(roundHalfEven n d : Q) - n / d| = 1 / 2 → roundHalfEven n d % 2 = 0) := by
  have hdQ : (0 : Q) < d := Nat.cast_pos.mpr hd
  have hlt : n % d < d := Nat.mod_lt n hd
  have hdiv : (n : Q) / d = (n / d : Nat) + (n % d : Nat) / (d : Q) := by
    rw [div_eq_iff hdQ.ne', add_mul, div_mul_cancel₀ _ hdQ.ne']
    exact_mod_cast (Nat.div_add_mod' n d).symm
  have h0 : (0 : Q) ≤ (n % d : Nat) / (d : Q) := by positivity
  have h1 : ((n % d : Nat) : Q) / d < 1 := (div_lt_one hdQ).mpr (Nat.cast_lt.mpr hlt)
  unfold roundHalfEven
  rw [hdiv]
  split_ifs with hup htie
  · have hx : 1 / 2 < ((n % d : Nat) : Q) / d := by
      rw [lt_div_iff₀ hdQ]
      have : (d : Q) < 2 * (n % d : Nat) := by exact_mod_cast hup
      linarith
    push_cast at *
    refine ⟨abs_le.mpr ⟨by linarith, by linarith⟩, fun h => ?_⟩
    rcases abs_eq (by norm_num : (0 : Q) ≤ 1 / 2) |>.mp h with h | h <;> linarith
  · have hx : ((n % d : Nat) : Q) / d = 1 / 2 := by
      rw [div_eq_iff hdQ.ne']
      have : (2 : Q) * (n % d : Nat) = d := by exact_mod_cast htie
      linarith
    rw [hx]
    rcases Nat.mod_two_eq_zero_or_one (n / d) with he | he <;> rw [he] <;> push_cast
    · exact ⟨abs_le.mpr ⟨by linarith, by linarith⟩, fun _ => by omega⟩
    · exact ⟨abs_le.mpr ⟨by linarith, by linarith⟩, fun _ => by omega⟩
  · have hx : ((n % d : Nat) : Q) / d < 1 / 2 := by
      rw [div_lt_iff₀ hdQ]
      have : (2 : Q) * (n % d : Nat) < d := by exact_mod_cast (by omega : 2 * (n % d) < d)
      linarith
    refine ⟨abs_le.mpr ⟨by linarith, by linarith⟩, fun h => ?_⟩
    rcases abs_eq (by norm_num : (0 : Q) ≤ 1 / 2) |>.mp h with h | h <;> linarith

/-- No integer is nearer than the rounded one, and an equally near other one shows that it is even. -/
theorem roundHalfEven_nearest (n : Nat) {d : Nat} (hd : 0 < d) (j : ℤ) :
    |(roundHalfEven n d : Q) - n / d| ≤ |(j : Q) - n / d| ∧
      (j ≠ roundHalfEven n d → |(j : Q) - n / d| = |(roundHalfEven n d : Q) - n / d| →
        roundHalfEven n d % 2 = 0) := by
  obtain ⟨hhalf, heven⟩ := roundHalfEven_spec n hd
  generalize roundHalfEven n d = k at *
  by_cases hj : j = k
  · subst hj
    exact ⟨by simp, fun h => absurd rfl h⟩
  · have hgap : (1 : Q) ≤ |(j : Q) - k| := by
      have : (1 : ℤ) ≤ |j - k| := Int.one_le_abs (sub_ne_zero.mpr hj)
      exact_mod_cast this
    have htri : |(j : Q) - k| ≤ |(j : Q) - n / d| + |(k : Q) - n / d| := by
      rw [abs_sub_comm (k : Q)]
      exact abs_sub_le _ _ _
    exact ⟨by linarith, fun _ heq => heven (by linarith)⟩

/-- Rounding does not pass an integer bound from below. -/
theorem roundHalfEven_le {n d N : Nat} (hd : 0 < d) (h : (n : Q) / d ≤ N) : roundHalfEven n d ≤ N := by
  have hk := (abs_le.mp (roundHalfEven_spec n hd).1).2
  have : (roundHalfEven n d : Q) < N + 1 := by linarith
  exact Nat.lt_succ_iff.mp (by exact_mod_cast this)

/-- Rounding does not pass an integer bound from above. -/
theorem le_roundHalfEven {n d N : Nat} (hd : 0 < d) (h : (N : Q) ≤ n / d) : N ≤ roundHalfEven n d := by
  have hk := (abs_le.mp (roundHalfEven_spec n hd).1).1
  have : (N : Q) < roundHalfEven n d + 1 := by linarith
  exact Nat.lt_succ_iff.mp (by exact_mod_cast this)

/-! ### Powers of two -/

theorem two_zpow_toNat (e : ℤ) : (2 : Q) ^ e.toNat / 2 ^ (-e).toNat = 2 ^ e := by
  rw [← zpow_natCast, ← zpow_natCast, ← zpow_sub₀ two_ne_zero]
  congr 1
  omega

theorem two_pow_mul_zpow (e : ℤ) : ((2 ^ 52 : Nat) : Q) * 2 ^ (e - 52) = 2 ^ e := by
  rw [Nat.cast_pow, Nat.cast_ofNat, ← zpow_natCast, ← zpow_add₀ two_ne_zero]
  congr 1
  omega

/-- A quotient whose terms are scaled by `2 ^ -e` in naturals. -/
theorem scaled_div_eq (n d : Nat) (e : ℤ) :
    ((n * 2 ^ (-e).toNat : Nat) : Q) / ((d * 2 ^ e.toNat : Nat) : Q) = (n : Q) / d / 2 ^ e := by
  rw [← two_zpow_toNat e]
  push_cast
  field_simp

theorem scaleByPow2_eq (m : Nat) (e : ℤ) : scaleByPow2 m e = m * 2 ^ e := by
  rw [← two_zpow_toNat e]
  unfold scaleByPow2
  split_ifs with he
  · rw [Int.toNat_eq_zero.mpr (by omega : -e ≤ 0)]
    push_cast
    ring
  · rw [Int.toNat_eq_zero.mpr (by omega : e ≤ 0), Rat.mkRat_eq_div]
    push_cast
    ring

/-- `floorLog2` is the exponent of the greatest power of two not above the quotient. -/
theorem floorLog2_spec {n d : Nat} (hn : 0 < n) (hd : 0 < d) :
    (2 : Q) ^ floorLog2 n d ≤ n / d ∧ (n : Q) / d < 2 ^ (floorLog2 n d + 1) := by
  have hdQ : (0 : Q) < d := Nat.cast_pos.mpr hd
  have hn₁ : (2 : Q) ^ (n.log2 : ℤ) ≤ n := by exact_mod_cast Nat.log2_self_le hn.ne'
  have hn₂ : (n : Q) < 2 ^ ((n.log2 : ℤ) + 1) := by exact_mod_cast Nat.lt_log2_self (n := n)
  have hd₁ : (2 : Q) ^ (d.log2 : ℤ) ≤ d := by exact_mod_cast Nat.log2_self_le hd.ne'
  have hd₂ : (d : Q) < 2 ^ ((d.log2 : ℤ) + 1) := by exact_mod_cast Nat.lt_log2_self (n := d)
  have hlow : (2 : Q) ^ ((n.log2 : ℤ) - d.log2 - 1) ≤ n / d := by
    rw [le_div_iff₀ hdQ]
    calc (2 : Q) ^ ((n.log2 : ℤ) - d.log2 - 1) * d ≤ 2 ^ ((n.log2 : ℤ) - d.log2 - 1) * 2 ^ ((d.log2 : ℤ) + 1) :=
          mul_le_mul_of_nonneg_left hd₂.le (by positivity)
      _ = 2 ^ (n.log2 : ℤ) := by rw [← zpow_add₀ two_ne_zero]; congr 1; ring
      _ ≤ n := hn₁
  have hhigh : (n : Q) / d < 2 ^ ((n.log2 : ℤ) - d.log2 + 1) := by
    rw [div_lt_iff₀ hdQ]
    calc (n : Q) < 2 ^ ((n.log2 : ℤ) + 1) := hn₂
      _ = 2 ^ ((n.log2 : ℤ) - d.log2 + 1) * 2 ^ (d.log2 : ℤ) := by rw [← zpow_add₀ two_ne_zero]; congr 1; ring
      _ ≤ 2 ^ ((n.log2 : ℤ) - d.log2 + 1) * d := mul_le_mul_of_nonneg_left hd₁ (by positivity)
  have htest (e : ℤ) : n * 2 ^ (-e).toNat < d * 2 ^ e.toNat ↔ (n : Q) / d < 2 ^ e := by
    have hpos : (0 : Q) < ((d * 2 ^ e.toNat : Nat) : Q) := by positivity
    rw [← div_lt_one (by positivity : (0 : Q) < 2 ^ e), ← scaled_div_eq, div_lt_one hpos]
    exact Nat.cast_lt.symm
  unfold floorLog2
  dsimp only
  split_ifs with h
  · exact ⟨hlow, by rw [sub_add_cancel]; exact (htest _).mp h⟩
  · exact ⟨not_lt.mp (mt (htest _).mpr h), hhigh⟩

/-! ### The fields of a datum -/

theorem F64.pack_toNat (neg : Bool) {M : Nat} (h : M < 2 ^ 63) :
    (F64.pack neg M).bits.toNat = neg.toNat * 2 ^ 63 + M := by
  rw [F64.pack, BitVec.toNat_append, ← Nat.shiftLeft_add_eq_or_of_lt (BitVec.isLt _), Nat.shiftLeft_eq,
    BitVec.toNat_ofNat, Nat.mod_eq_of_lt h, BitVec.toNat_ofBool]

@[simp] theorem F64.pack_neg (neg : Bool) (M : Nat) : (F64.pack neg M).neg = neg := by
  rw [F64.neg, F64.pack, BitVec.getLsbD_append]
  simp

theorem F64.pack_expField (neg : Bool) {M : Nat} (h : M < 2 ^ 63) : (F64.pack neg M).expField = M / 2 ^ 52 := by
  rw [F64.expField, BitVec.extractLsb'_toNat, F64.pack_toNat neg h, Nat.shiftRight_eq_div_pow]
  omega

theorem F64.pack_fracField (neg : Bool) {M : Nat} (h : M < 2 ^ 63) : (F64.pack neg M).fracField = M % 2 ^ 52 := by
  rw [F64.fracField, BitVec.extractLsb'_toNat, F64.pack_toNat neg h, Nat.shiftRight_zero]
  omega

theorem F64.pack_lastBit (neg : Bool) {M : Nat} (h : M < 2 ^ 63) (he : M % 2 = 0) :
    (F64.pack neg M).bits.getLsbD 0 = false := by
  rw [BitVec.getLsbD, F64.pack_toNat neg h, Nat.testBit_zero, decide_eq_false_iff_not]
  omega

/-- A datum below the infinity is finite. -/
theorem F64.pack_isFinite (neg : Bool) {M : Nat} (h : M < F64.infMagnitude) : (F64.pack neg M).isFinite = true := by
  rw [F64.infMagnitude] at h
  rw [F64.isFinite, F64.pack_expField neg (by omega), bne_iff_ne]
  omega

/-- A significand `m` at the exponent `e`, a carry to `2 ^ 53` included, packs to the magnitude `m * 2 ^ (e - 52)`. -/
theorem F64.pack_magnitude (neg : Bool) {e : ℤ} {m : Nat} (he : -1022 ≤ e) (hm : m ≤ 2 ^ 53)
    (hnorm : e = -1022 ∨ 2 ^ 52 ≤ m) (hfit : (e + 1022).toNat * 2 ^ 52 + m < 2 ^ 63) :
    (F64.pack neg ((e + 1022).toNat * 2 ^ 52 + m)).magnitude = m * 2 ^ (e - 52) := by
  rw [F64.magnitude, F64.pack_expField neg hfit, F64.pack_fracField neg hfit, scaleByPow2_eq, scaleByPow2_eq]
  obtain ⟨a, rfl⟩ : ∃ a : Nat, e = a - 1022 := ⟨(e + 1022).toNat, by omega⟩
  rw [show ((a : ℤ) - 1022 + 1022).toNat = a by omega]
  rcases lt_or_ge m (2 ^ 52) with hsub | hbig
  · obtain rfl : a = 0 := by omega
    rw [if_pos (by omega), show (0 * 2 ^ 52 + m) % 2 ^ 52 = m by omega]
    norm_num
  · rw [if_neg (by omega)]
    rcases hm.lt_or_eq with hlt | rfl
    · rw [show (a * 2 ^ 52 + m) / 2 ^ 52 = a + 1 by omega,
        show 2 ^ 52 + (a * 2 ^ 52 + m) % 2 ^ 52 = m by omega]
      congr 2
      push_cast
      ring
    · rw [show (a * 2 ^ 52 + 2 ^ 53) / 2 ^ 52 = a + 2 by omega,
        show 2 ^ 52 + (a * 2 ^ 52 + 2 ^ 53) % 2 ^ 52 = 2 ^ 52 by omega,
        show ((a + 2 : Nat) : ℤ) - 1075 = (a - 1022 - 52) + 1 by push_cast; ring, zpow_add₀ two_ne_zero]
      push_cast
      ring

/-- The value of a finite datum is an integer of at most 53 bits times a power of two. -/
theorem F64.toRat_form {y : F64} (h : y.isFinite = true) :
    ∃ (k e : ℤ), -1022 ≤ e ∧ e ≤ 1023 ∧ |k| < 2 ^ 53 ∧ y.toRat = k * 2 ^ (e - 52) := by
  have hf : y.fracField < 2 ^ 52 := (y.bits.extractLsb' 0 52).isLt
  have hx : y.expField < 2 ^ 11 := (y.bits.extractLsb' 52 11).isLt
  rw [F64.isFinite, bne_iff_ne] at h
  obtain ⟨m, e, he, he', hm, hmag⟩ :
      ∃ (m : Nat) (e : ℤ), -1022 ≤ e ∧ e ≤ 1023 ∧ m < 2 ^ 53 ∧ y.magnitude = m * 2 ^ (e - 52) := by
    unfold F64.magnitude
    split_ifs with h0
    · exact ⟨y.fracField, -1022, by omega, by omega, by omega, scaleByPow2_eq _ _⟩
    · refine ⟨2 ^ 52 + y.fracField, y.expField - 1023, by omega, by omega, by omega, ?_⟩
      rw [scaleByPow2_eq]
      congr 2
      ring
  unfold F64.toRat
  split_ifs
  · exact ⟨-m, e, he, he', by rw [abs_neg, Nat.abs_cast]; exact_mod_cast hm, by rw [hmag]; push_cast; ring⟩
  · exact ⟨m, e, he, he', by rw [Nat.abs_cast]; exact_mod_cast hm, by rw [hmag]; push_cast; ring⟩

/-! ### The rounding of a rational -/

/-- The largest finite datum. -/
def F64.largest : F64 := ⟨0x7FEFFFFFFFFFFFFF#64⟩

theorem F64.largest_toRat : F64.largest.toRat = (2 ^ 53 - 1 : Nat) * 2 ^ (971 : ℤ) := by decide +kernel

theorem F64.largest_lt : F64.largest.toRat < 2 ^ (1024 : ℤ) := by
  rw [F64.largest_toRat, show (1024 : ℤ) = 53 + 971 by norm_num, zpow_add₀ two_ne_zero]
  exact mul_lt_mul_of_pos_right (by norm_num) (by positivity)

/-- Every finite datum lies within the largest one. -/
theorem F64.abs_toRat_le_largest {y : F64} (h : y.isFinite = true) : |y.toRat| ≤ F64.largest.toRat := by
  obtain ⟨k, e, -, he, hk, hy⟩ := F64.toRat_form h
  have hk' : |(k : Q)| ≤ (2 ^ 53 - 1 : Nat) := by
    have : |k| ≤ (2 ^ 53 - 1 : Nat) := by norm_num at hk ⊢; omega
    exact_mod_cast this
  rw [hy, F64.largest_toRat, abs_mul, abs_of_pos (by positivity : (0 : Q) < 2 ^ (e - 52))]
  exact mul_le_mul hk' (zpow_le_zpow_right₀ one_le_two (by omega)) (by positivity) (by positivity)

/-- What `F64.roundMagnitude` makes of a positive `r = n / d` in the finite range: the significand `m` at the exponent `e`
is the integer nearest to `r / 2 ^ (e - 52)`. -/
structure RoundedAt (n d : Nat) (e : ℤ) (m : Nat) : Prop where
  exponent : -1022 ≤ e
  carry : m ≤ 2 ^ 53
  normal : e = -1022 ∨ 2 ^ 52 ≤ m
  below : e = -1022 ∨ (2 : Q) ^ e ≤ n / d
  fits : (e + 1022).toNat * 2 ^ 52 + m < F64.infMagnitude
  half : |(m : Q) - n / d / 2 ^ (e - 52)| ≤ 1 / 2
  nearest : ∀ j : ℤ, |(m : Q) - n / d / 2 ^ (e - 52)| ≤ |(j : Q) - n / d / 2 ^ (e - 52)| ∧
    (j ≠ m → |(j : Q) - n / d / 2 ^ (e - 52)| = |(m : Q) - n / d / 2 ^ (e - 52)| → m % 2 = 0)
  magnitude : F64.roundMagnitude n d = (e + 1022).toNat * 2 ^ 52 + m

/-- The exponent `F64.roundMagnitude` rounds at, that of the subnormal data at least. -/
def roundExponent (n d : Nat) : ℤ := max (floorLog2 n d) (-1022)

theorem F64.roundMagnitude_eq (n d : Nat) :
    F64.roundMagnitude n d = min ((roundExponent n d + 1022).toNat * 2 ^ 52 +
      roundHalfEven (n * 2 ^ (-(roundExponent n d - 52)).toNat) (d * 2 ^ (roundExponent n d - 52).toNat))
      F64.infMagnitude :=
  rfl

theorem roundExponent_spec {n d : Nat} (hn : 0 < n) (hd : 0 < d) (hr : (n : Q) / d ≤ F64.largest.toRat) :
    -1022 ≤ roundExponent n d ∧ roundExponent n d ≤ 1023 ∧
      (roundExponent n d = -1022 ∨ (2 : Q) ^ roundExponent n d ≤ n / d) ∧
      (n : Q) / d < 2 ^ (roundExponent n d + 1) := by
  obtain ⟨hlow, hhigh⟩ := floorLog2_spec hn hd
  have hbelow : roundExponent n d = -1022 ∨ (2 : Q) ^ roundExponent n d ≤ n / d := by
    rcases max_choice (floorLog2 n d) (-1022) with h | h
    · exact .inr (by rw [roundExponent, h]; exact hlow)
    · exact .inl h
  have hle : floorLog2 n d ≤ roundExponent n d := le_max_left _ _
  refine ⟨le_max_right _ _, ?_, hbelow, hhigh.trans_le (zpow_le_zpow_right₀ one_le_two (by omega))⟩
  rcases hbelow with h | h
  · omega
  · have := (zpow_lt_zpow_iff_right₀ one_lt_two).mp ((h.trans hr).trans_lt F64.largest_lt)
    omega

theorem F64.roundMagnitude_spec {n d : Nat} (hn : 0 < n) (hd : 0 < d) (hr : (n : Q) / d ≤ F64.largest.toRat) :
    ∃ e m, RoundedAt n d e m := by
  obtain ⟨hmin, hmax, hbelow, habove⟩ := roundExponent_spec hn hd hr
  have hmag := F64.roundMagnitude_eq n d
  generalize roundExponent n d = e at *
  generalize hN : n * 2 ^ (-(e - 52)).toNat = N at hmag
  generalize hD : d * 2 ^ (e - 52).toNat = D at hmag
  have hDpos : 0 < D := hD ▸ by positivity
  have hND : (N : Q) / D = n / d / 2 ^ (e - 52) := by rw [← hN, ← hD]; exact scaled_div_eq n d (e - 52)
  have hu : (0 : Q) < 2 ^ (e - 52) := by positivity
  have hcarry : roundHalfEven N D ≤ 2 ^ 53 := by
    refine roundHalfEven_le hDpos ?_
    rw [hND, div_le_iff₀ hu, Nat.cast_pow, Nat.cast_ofNat, ← zpow_natCast, ← zpow_add₀ two_ne_zero]
    exact habove.le.trans (zpow_le_zpow_right₀ one_le_two (by push_cast; omega))
  have hfits : (e + 1022).toNat * 2 ^ 52 + roundHalfEven N D < F64.infMagnitude := by
    rw [F64.infMagnitude]
    rcases hmax.lt_or_eq with h | h
    · omega
    · have htop : roundHalfEven N D ≤ 2 ^ 53 - 1 := by
        refine roundHalfEven_le hDpos ?_
        rw [hND, div_le_iff₀ hu, h]
        calc (n : Q) / d ≤ F64.largest.toRat := hr
          _ = (2 ^ 53 - 1 : Nat) * 2 ^ ((1023 : ℤ) - 52) := by rw [F64.largest_toRat]; norm_num
      omega
  have hnormal : e = -1022 ∨ 2 ^ 52 ≤ roundHalfEven N D := by
    refine hbelow.imp_right fun h => le_roundHalfEven hDpos ?_
    rw [hND, le_div_iff₀ hu]
    exact (two_pow_mul_zpow e).trans_le h
  exact ⟨e, roundHalfEven N D, hmin, hcarry, hnormal, hbelow, hfits, hND ▸ (roundHalfEven_spec N hDpos).1,
    fun j => hND ▸ roundHalfEven_nearest N hDpos j, hmag.trans (min_eq_left hfits.le)⟩

end Sys2Proof
end

section
/-! PROOFS. `F64.round` takes the nearest datum, ties to even, and what follows: it is monotone, exact on data, and keeps
within bounds that are data. -/

namespace Sys2Proof

@[simp] theorem F64.zero_toRat (neg : Bool) : (F64.zero neg).toRat = 0 := by cases neg <;> decide +kernel
@[simp] theorem F64.zero_isFinite (neg : Bool) : (F64.zero neg).isFinite = true := by cases neg <;> decide
@[simp] theorem F64.zero_lastBit (neg : Bool) : (F64.zero neg).bits.getLsbD 0 = false := by cases neg <;> decide

/-- What `F64.round` makes of `q`, sign and zero included: `k * 2 ^ (e - 52)`, where `k` is the integer nearest to
`q / 2 ^ (e - 52)`, a tie showing in the last bit. -/
structure RoundedTo (x : F64) (q : Q) (e k : ℤ) : Prop where
  finite : x.isFinite = true
  value : x.toRat = k * 2 ^ (e - 52)
  exponent : -1022 ≤ e
  below : e = -1022 ∨ (2 : Q) ^ e ≤ |q|
  half : |(k : Q) - q / 2 ^ (e - 52)| ≤ 1 / 2
  nearest : ∀ j : ℤ, |(k : Q) - q / 2 ^ (e - 52)| ≤ |(j : Q) - q / 2 ^ (e - 52)|
  tie : ∀ j : ℤ, j ≠ k → |(j : Q) - q / 2 ^ (e - 52)| = |(k : Q) - q / 2 ^ (e - 52)| → x.bits.getLsbD 0 = false

/-- A significand of the magnitude of `q`, packed with a sign. -/
theorem RoundedAt.pack_toRat {n d : Nat} {e : ℤ} {m : Nat} (h : RoundedAt n d e m) (neg : Bool) :
    (F64.pack neg ((e + 1022).toNat * 2 ^ 52 + m)).toRat = (if neg then -(m : Q) else m) * 2 ^ (e - 52) := by
  have hfit := h.fits.trans (by rw [F64.infMagnitude]; norm_num : F64.infMagnitude < 2 ^ 63)
  rw [F64.toRat, F64.pack_neg, F64.pack_magnitude neg h.exponent h.carry h.normal hfit]
  cases neg <;> simp

theorem RoundedAt.pack_lastBit {n d : Nat} {e : ℤ} {m : Nat} (h : RoundedAt n d e m) (neg : Bool) (hm : m % 2 = 0) :
    (F64.pack neg ((e + 1022).toNat * 2 ^ 52 + m)).bits.getLsbD 0 = false :=
  F64.pack_lastBit neg (h.fits.trans (by rw [F64.infMagnitude]; norm_num)) (by omega)

theorem abs_eq_num_div_den (q : Q) : |q| = (q.num.natAbs : Q) / q.den := by
  rw [Rat.abs_def, Rat.divInt_eq_div, Int.cast_natCast, Int.cast_natCast]

theorem RoundedAt.pos {q : Q} (hq : 0 < q) {e : ℤ} {m : Nat} (h : RoundedAt q.num.natAbs q.den e m) :
    RoundedTo (F64.pack false ((e + 1022).toNat * 2 ^ 52 + m)) q e m := by
  have hr : (q.num.natAbs : Q) / q.den = q := by rw [← abs_eq_num_div_den, abs_of_pos hq]
  obtain ⟨he, -, -, hbelow, hfits, hhalf, hnear, -⟩ := id h
  rw [hr] at hbelow hhalf hnear
  exact ⟨F64.pack_isFinite _ hfits, by rw [h.pack_toRat]; simp, he, by rwa [abs_of_pos hq], by simpa using hhalf,
    fun j => by simpa using (hnear j).1, fun j hj ht => h.pack_lastBit _ ((hnear j).2 hj (by simpa using ht))⟩

theorem RoundedAt.neg {q : Q} (hq : q < 0) {e : ℤ} {m : Nat} (h : RoundedAt q.num.natAbs q.den e m) :
    RoundedTo (F64.pack true ((e + 1022).toNat * 2 ^ 52 + m)) q e (-m) := by
  have hr : (q.num.natAbs : Q) / q.den = -q := by rw [← abs_eq_num_div_den, abs_of_neg hq]
  have hflip (x : Q) : |-x - q / 2 ^ (e - 52)| = |x - -q / 2 ^ (e - 52)| := by
    rw [← abs_neg]
    congr 1
    ring
  obtain ⟨he, -, -, hbelow, hfits, hhalf, hnear, -⟩ := id h
  rw [hr] at hbelow hhalf hnear
  have hk : |((-m : ℤ) : Q) - q / 2 ^ (e - 52)| = |(m : Q) - -q / 2 ^ (e - 52)| := by
    rw [← hflip]; push_cast; rfl
  have hj (j : ℤ) : |(j : Q) - q / 2 ^ (e - 52)| = |((-j : ℤ) : Q) - -q / 2 ^ (e - 52)| := by
    rw [← hflip]; push_cast; rw [neg_neg]
  refine ⟨F64.pack_isFinite _ hfits, by rw [h.pack_toRat]; simp, he, by rwa [abs_of_neg hq], by rwa [hk],
    fun j => ?_, fun j hne ht => h.pack_lastBit _ ((hnear (-j)).2 (by omega) (by rw [← hj, ht, hk]))⟩
  rw [hk, hj]
  exact (hnear (-j)).1

theorem RoundedTo.zero (z : Bool) : RoundedTo (F64.zero z) 0 (-1022) 0 where
  finite := F64.zero_isFinite z
  value := by simp
  exponent := le_refl _
  below := .inl rfl
  half := by norm_num
  nearest j := by simp
  tie _ _ _ := F64.zero_lastBit z

/-- All that `F64.round` does in the finite range. -/
theorem F64.round_spec (z : Bool) {q : Q} (hq : |q| ≤ F64.largest.toRat) :
    ∃ e k, RoundedTo (F64.round z q) q e k := by
  by_cases h0 : q = 0
  · subst h0
    exact ⟨_, _, RoundedTo.zero z⟩
  · obtain ⟨e, m, h⟩ := F64.roundMagnitude_spec (Int.natAbs_pos.mpr (Rat.num_ne_zero.mpr h0)) q.den_pos
      (abs_eq_num_div_den q ▸ hq)
    rw [F64.round, if_neg h0, h.magnitude]
    rcases lt_or_gt_of_ne h0 with hn | hp
    · rw [decide_eq_true hn]
      exact ⟨e, -m, h.neg hn⟩
    · rw [decide_eq_false (not_lt.mpr hp.le)]
      exact ⟨e, m, h.pos hp⟩

/-- Distances on the grid of step `2 ^ e`. -/
theorem abs_mul_zpow_sub (x q : Q) (e : ℤ) : |x * 2 ^ e - q| = |x - q / 2 ^ e| * 2 ^ e := by
  have hu : (0 : Q) < 2 ^ e := by positivity
  rw [← abs_of_pos hu, ← abs_mul, abs_of_pos hu, sub_mul, div_mul_cancel₀ _ hu.ne']

theorem RoundedTo.dist {x : F64} {q : Q} {e k : ℤ} (h : RoundedTo x q e k) :
    |x.toRat - q| = |(k : Q) - q / 2 ^ (e - 52)| * 2 ^ (e - 52) := by
  rw [h.value, abs_mul_zpow_sub]

/-- Against a rational on the grid of the rounding's own exponent, the rounded datum is as near, and a tie is even. -/
theorem RoundedTo.nearest_grid {x : F64} {q : Q} {e k : ℤ} (h : RoundedTo x q e k) (j : ℤ) :
    |x.toRat - q| ≤ |(j : Q) * 2 ^ (e - 52) - q| ∧
      ((j : Q) * 2 ^ (e - 52) ≠ x.toRat → |(j : Q) * 2 ^ (e - 52) - q| = |x.toRat - q| → x.bits.getLsbD 0 = false) := by
  have hu : (0 : Q) < 2 ^ (e - 52) := by positivity
  rw [h.dist, abs_mul_zpow_sub]
  refine ⟨mul_le_mul_of_nonneg_right (h.nearest j) hu.le, fun hne heq => h.tie j ?_ (mul_right_cancel₀ hu.ne' heq)⟩
  rintro rfl
  exact hne h.value.symm

/-- A datum below the rounding's own grid is smaller than the power of two that lies between it and `q`, so it is farther
from `q` than the rounded datum. -/
theorem RoundedTo.nearer_than_small {x : F64} {q y : Q} {e k : ℤ} (h : RoundedTo x q e k) (he : (2 : Q) ^ e ≤ |q|)
    (hy : |y| < 2 ^ e) : |x.toRat - q| < |y - q| := by
  have hyq : |q| - |y| ≤ |y - q| := by
    rw [abs_sub_comm]
    exact abs_sub_abs_le_abs_sub q y
  have hgrid := two_pow_mul_zpow e
  rcases le_total 0 q with hq | hq
  · have hx := (h.nearest_grid (2 ^ 52)).1
    push_cast at hx hgrid
    rw [abs_of_nonneg hq] at he hyq
    rw [hgrid, abs_of_nonpos (by linarith : 2 ^ e - q ≤ 0)] at hx
    linarith
  · have hx := (h.nearest_grid (-2 ^ 52)).1
    push_cast at hx hgrid
    rw [abs_of_nonpos hq] at he hyq
    rw [neg_mul, hgrid, abs_of_nonneg (by linarith : 0 ≤ -2 ^ e - q)] at hx
    linarith

/-- No finite datum is nearer than the rounded one, and a tie goes to the even one (rule R14). -/
theorem RoundedTo.nearest_datum {x : F64} {q : Q} {e k : ℤ} (h : RoundedTo x q e k) {y : F64} (hy : y.isFinite = true) :
    |x.toRat - q| ≤ |y.toRat - q| ∧
      (y.toRat ≠ x.toRat → |y.toRat - q| = |x.toRat - q| → x.bits.getLsbD 0 = false) := by
  obtain ⟨j, e', he', -, hj, hval⟩ := F64.toRat_form hy
  rcases le_or_gt e e' with hle | hlt
  · have hgrid : y.toRat = ((j * 2 ^ (e' - e).toNat : ℤ) : Q) * 2 ^ (e - 52) := by
      rw [hval]
      push_cast
      rw [mul_assoc, ← zpow_natCast, ← zpow_add₀ two_ne_zero]
      congr 2
      omega
    rw [hgrid]
    exact h.nearest_grid _
  · have hsmall : |y.toRat| < 2 ^ e := by
      have hjQ : |(j : Q)| < 2 ^ (53 : ℤ) := by exact_mod_cast hj
      rw [hval, abs_mul, abs_of_pos (by positivity : (0 : Q) < 2 ^ (e' - 52))]
      calc |(j : Q)| * 2 ^ (e' - 52) < 2 ^ (53 : ℤ) * 2 ^ (e' - 52) := mul_lt_mul_of_pos_right hjQ (by positivity)
        _ = 2 ^ (e' + 1) := by rw [← zpow_add₀ two_ne_zero]; congr 1; ring
        _ ≤ 2 ^ e := zpow_le_zpow_right₀ one_le_two hlt
    have hnear := h.nearer_than_small (h.below.resolve_left (by omega)) hsmall
    exact ⟨hnear.le, fun _ heq => absurd heq hnear.ne'⟩

/-- Settles O51: the significand is the nearest integer at the rounding's exponent, and a datum off that grid is farther. -/
theorem roundingIsToTheNearestEven : Obligations.RoundingIsToTheNearestEven := by
  intro z q hq
  obtain ⟨e, k, h⟩ := F64.round_spec z hq
  exact ⟨h.finite, fun y hy => h.nearest_datum hy⟩

end Sys2Proof
end

section
/-! PROOFS. Stepping, and what every operation but `ADVANCE` leaves alone (rule R310). -/

namespace Sys2Proof.Machine

/-! ### Stepping -/

theorem step_of_pending_nil {s : State} (h : s.pending = []) : step s = .next s := by
  rw [step, h]

theorem step_of_decode {s : State} {t : Transaction} {rest : List Transaction} {i : Instr} (h : s.pending = t :: rest)
    (hd : decode t = .ok i) : step s = exec i s.dropPending := by
  rw [step, h]
  simp only [hd]

/-- All that a step with a next state does: nothing, or the operation at the head of the queue. -/
theorem step_cases {s t : State} (h : step s = .next t) :
    (s.pending = [] ∧ t = s) ∨
      ∃ tr rest i, s.pending = tr :: rest ∧ decode tr = .ok i ∧ exec i s.dropPending = .next t := by
  cases hp : s.pending with
  | nil =>
    rw [step_of_pending_nil hp] at h
    exact .inl ⟨rfl, (Host.Outcome.next.inj h).symm⟩
  | cons tr rest =>
    cases hd : decode tr with
    | ok i => exact .inr ⟨tr, rest, i, rfl, hd, step_of_decode hp hd ▸ h⟩
    | error why =>
      rw [step, hp] at h
      simp only [hd] at h
      cases h

theorem decode_of_decodeTableWord {nbits w : Nat} {i : Instr} (h : decodeTableWord nbits w = some i) :
    decode (transactionOfNat (w % 2 ^ nbits)) = .ok i := by
  unfold decodeTableWord at h
  cases hd : decode (transactionOfNat (w % 2 ^ nbits)) with
  | ok j => rw [hd] at h; exact congrArg _ (Option.some.inj h)
  | error why => rw [hd] at h; cases h

/-- Settles O5: the head of the queue is decoded and run, whoever put it there. -/
theorem stepRunsTheNextOperation : Obligations.StepRunsTheNextOperation := by
  refine ⟨fun s t rest i hp hd => ?_, fun s nbits w i hi => ?_, fun s => step_of_pending_nil⟩
  · rw [step_of_decode hp hd, State.dropPending, hp, List.tail_cons]
  · exact step_of_decode rfl (decode_of_decodeTableWord hi)

/-! ### The operations that take no time -/

/-- What no operation but `ADVANCE` moves (rule R310): the samples, the bus, the configuration, the filter state, the
sample clock and the position of every Timer. -/
structure State.SameTime (s t : State) : Prop where
  samples : t.samples = s.samples
  bus : t.bus = s.bus
  config : t.config = s.config
  filt : t.apu.filt = s.apu.filt
  sampleClock : t.apu.sampleClock = s.apu.sampleClock
  fs : t.apu.fs.timer.position = s.apu.fs.timer.position
  p1 : t.apu.p1.timer.position = s.apu.p1.timer.position
  p2 : t.apu.p2.timer.position = s.apu.p2.timer.position
  tri : t.apu.tri.timer.position = s.apu.tri.timer.position
  noise : t.apu.noise.timer.position = s.apu.noise.timer.position
  dmc : t.apu.dmc.timer.position = s.apu.dmc.timer.position

theorem DmcChannel.setEnabled_timer (d : DmcChannel) (e : Bool) : (d.setEnabled e).timer = d.timer := by
  unfold DmcChannel.setEnabled
  split
  · split <;> rfl
  · rfl

namespace State.SameTime

theorem refl (s : State) : s.SameTime s := ⟨rfl, rfl, rfl, rfl, rfl, rfl, rfl, rfl, rfl, rfl, rfl⟩

theorem setP1 {s : State} {p : PulseChannel} (h : p.timer.position = s.apu.p1.timer.position) : s.SameTime (s.setP1 p) :=
  { refl s with p1 := h }

theorem setP2 {s : State} {p : PulseChannel} (h : p.timer.position = s.apu.p2.timer.position) : s.SameTime (s.setP2 p) :=
  { refl s with p2 := h }

theorem setTri {s : State} {t : TriangleChannel} (h : t.timer.position = s.apu.tri.timer.position) :
    s.SameTime (s.setTri t) :=
  { refl s with tri := h }

theorem setNoise {s : State} {n : NoiseChannel} (h : n.timer.position = s.apu.noise.timer.position) :
    s.SameTime (s.setNoise n) :=
  { refl s with noise := h }

theorem setDmc {s : State} {d : DmcChannel} (h : d.timer.position = s.apu.dmc.timer.position) : s.SameTime (s.setDmc d) :=
  { refl s with dmc := h }

theorem setFs {s : State} {f : FrameSequencer} (h : f.timer.position = s.apu.fs.timer.position) : s.SameTime (s.setFs f) :=
  { refl s with fs := h }

theorem writeEnables (s : State) (data : Byte) : s.SameTime { s with apu := s.apu.writeEnables data } :=
  { refl s with dmc := congrArg Timer.position (DmcChannel.setEnabled_timer _ _) }

/-- A read returns its byte to the host, and may draw it from the open bus. -/
theorem returnByte {s : State} (draws : Nat) (b : Byte) :
    s.SameTime (({ s with openBusDraws := draws } : State).returnByte b) :=
  { refl s with }

/-- A write that only completes: its one next state takes no time. -/
theorem of_next {s u t : State} (h : (Host.Outcome.next u : Host.Outcome State Fault Refusal) = .next t)
    (hu : s.SameTime u) : s.SameTime t :=
  Host.Outcome.next.inj h ▸ hu

/-- A write that reads a table: every value it can complete with takes no time. -/
theorem of_map {α : Type} {r : Except Fault α} {set : α → State} {s t : State} (h : toOutcome (r.map set) = .next t)
    (hset : ∀ v, r = .ok v → s.SameTime (set v)) : s.SameTime t := by
  obtain ⟨v, hv, rfl⟩ := map_eq_ok.mp (toOutcome_eq_next.mp h)
  exact hset v hv

end State.SameTime

theorem PulseChannel.writeThi_position {c : Config} {p q : PulseChannel} {data : Byte} (h : p.writeThi c data = .ok q) :
    q.timer.position = p.timer.position := by
  obtain ⟨v, -, hq⟩ := bind_eq_ok.mp h
  cases hq
  rfl

theorem TriangleChannel.writeThi_position {c : Config} {t u : TriangleChannel} {data : Byte}
    (h : t.writeThi c data = .ok u) : u.timer.position = t.timer.position := by
  obtain ⟨v, -, hu⟩ := bind_eq_ok.mp h
  cases hu
  rfl

theorem NoiseChannel.writePeriod_position {c : Config} {n m : NoiseChannel} {data : Byte}
    (h : n.writePeriod c data = .ok m) : m.timer.position = n.timer.position := by
  obtain ⟨p, -, hm⟩ := bind_eq_ok.mp h
  cases hm
  rfl

theorem NoiseChannel.writeLen_position {c : Config} {n m : NoiseChannel} {data : Byte}
    (h : n.writeLen c data = .ok m) : m.timer.position = n.timer.position := by
  obtain ⟨v, -, hm⟩ := bind_eq_ok.mp h
  cases hm
  rfl

theorem DmcChannel.writeCtrl_position {c : Config} {d e : DmcChannel} {data : Byte} (h : d.writeCtrl c data = .ok e) :
    e.timer.position = d.timer.position := by
  obtain ⟨p, -, he⟩ := bind_eq_ok.mp h
  cases he
  split <;> rfl

theorem readOpenBus_sameTime {off : Offset} {s t : State} (h : readOpenBus off s = .next t) : s.SameTime t :=
  .of_next h (.returnByte _ _)

theorem writeUnmapped_sameTime {data : Byte} {s t : State} (h : writeUnmapped data s = .next t) : s.SameTime t :=
  .of_next h (.refl s)

/-- Every operation but `ADVANCE` takes no time. -/
theorem exec_sameTime {i : Instr} {s t : State} (hi : ∀ n, i ≠ .adv n) (h : exec i s = .next t) : s.SameTime t := by
  cases i with
  | wrP1Ctrl data | wrP1Sweep data | wrP1Tlo data => exact .of_next h (.setP1 rfl)
  | wrP1Thi data => exact .of_map h (fun _ hv => .setP1 (PulseChannel.writeThi_position hv))
  | wrP2Ctrl data | wrP2Sweep data | wrP2Tlo data => exact .of_next h (.setP2 rfl)
  | wrP2Thi data => exact .of_map h (fun _ hv => .setP2 (PulseChannel.writeThi_position hv))
  | wrTriLinear data | wrTriUnused data | wrTriTlo data => exact .of_next h (.setTri rfl)
  | wrTriThi data => exact .of_map h (fun _ hv => .setTri (TriangleChannel.writeThi_position hv))
  | wrNoiseCtrl data | wrNoiseUnused data => exact .of_next h (.setNoise rfl)
  | wrNoisePeriod data => exact .of_map h (fun _ hv => .setNoise (NoiseChannel.writePeriod_position hv))
  | wrNoiseLen data => exact .of_map h (fun _ hv => .setNoise (NoiseChannel.writeLen_position hv))
  | wrDmcCtrl data => exact .of_map h (fun _ hv => .setDmc (DmcChannel.writeCtrl_position hv))
  | wrDmcLevel data | wrDmcAddr data | wrDmcLen data => exact .of_next h (.setDmc rfl)
  | wrStatus data => exact .of_next h (.writeEnables s data)
  | wrFrame data => exact .of_next h (.setFs rfl)
  | wrUnmapped14 data | wrUnmapped16 data | wrUnmapped18 data | wrUnmapped19 data | wrUnmapped1A data
  | wrUnmapped1B data | wrUnmapped1C data | wrUnmapped1D data | wrUnmapped1E data | wrUnmapped1F data =>
    exact writeUnmapped_sameTime (data := data) h
  | rdStatus => exact .of_next h (.returnByte _ _)
  | rdOpen00 | rdOpen01 | rdOpen02 | rdOpen03 | rdOpen04 | rdOpen05 | rdOpen06 | rdOpen07 | rdOpen08 | rdOpen09
  | rdOpen0A | rdOpen0B | rdOpen0C | rdOpen0D | rdOpen0E | rdOpen0F | rdOpen10 | rdOpen11 | rdOpen12 | rdOpen13
  | rdOpen14 | rdOpen16 | rdOpen17 | rdOpen18 | rdOpen19 | rdOpen1A | rdOpen1B | rdOpen1C | rdOpen1D | rdOpen1E
  | rdOpen1F => exact readOpenBus_sameTime h
  | adv n => exact absurd rfl (hi n)

/-- Settles O24: each operation's own write keeps the parts of the state that time moves. -/
theorem onlyAdvanceMovesTime : Obligations.OnlyAdvanceMovesTime := by
  intro i s t hi h
  obtain ⟨samples, bus, config, filt, sampleClock, fs, p1, p2, tri, noise, dmc⟩ := exec_sameTime hi h
  exact ⟨samples, bus, config, filt, sampleClock, fs, p1, p2, tri, noise, dmc⟩

end Sys2Proof.Machine
end

section
/-! PROOFS. What follows from rounding to nearest (rule R14): it is monotone, leaves a datum as it is, and keeps within
bounds that are data; the binary64 operations on finite operands as roundings of exact rationals. -/

namespace Sys2Proof

/-! ### Rounding -/

/-- Whatever sign an exact zero gets, the value is the same. -/
theorem F64.round_toRat_eq (z z' : Bool) (q : Q) : (F64.round z q).toRat = (F64.round z' q).toRat := by
  unfold F64.round
  split_ifs <;> simp

/-- A datum is its own rounding. -/
theorem F64.round_toRat_self (z : Bool) {y : F64} (hy : y.isFinite = true) : (F64.round z y.toRat).toRat = y.toRat := by
  obtain ⟨e, k, h⟩ := F64.round_spec z (F64.abs_toRat_le_largest hy)
  have hnear := (h.nearest_datum hy).1
  rw [sub_self, abs_zero] at hnear
  exact sub_eq_zero.mp (abs_nonpos_iff.mp hnear)

/-- The greater of two numbers is the nearer one only from above their midpoint. -/
theorem add_le_two_mul_of_abs_sub_le {x y p : Q} (hxy : y < x) (h : |x - p| ≤ |y - p|) : x + y ≤ 2 * p := by
  have hsq := sq_le_sq.mpr h
  by_contra hmid
  nlinarith

theorem two_mul_le_add_of_abs_sub_le {x y q : Q} (hxy : y < x) (h : |y - q| ≤ |x - q|) : 2 * q ≤ x + y := by
  have hsq := sq_le_sq.mpr h
  by_contra hmid
  nlinarith

/-- Rounding is monotone: of two results in the wrong order the midpoint would part the arguments. -/
theorem F64.round_mono (z : Bool) {p q : Q} (hp : |p| ≤ F64.largest.toRat) (hq : |q| ≤ F64.largest.toRat)
    (h : p ≤ q) : (F64.round z p).toRat ≤ (F64.round z q).toRat := by
  rcases h.lt_or_eq with hlt | rfl
  · obtain ⟨_, _, hrp⟩ := F64.round_spec z hp
    obtain ⟨_, _, hrq⟩ := F64.round_spec z hq
    by_contra hx
    have hp' := add_le_two_mul_of_abs_sub_le (not_le.mp hx) (hrp.nearest_datum hrq.finite).1
    have hq' := two_mul_le_add_of_abs_sub_le (not_le.mp hx) (hrq.nearest_datum hrp.finite).1
    linarith
  · exact le_refl _

theorem F64.round_nonneg (z : Bool) {q : Q} (hq : |q| ≤ F64.largest.toRat) (h : 0 ≤ q) : 0 ≤ (F64.round z q).toRat := by
  have hzero := F64.zero_isFinite false
  rw [← F64.zero_toRat false] at h ⊢
  exact (F64.round_toRat_self z hzero).symm.trans_le (F64.round_mono z (F64.abs_toRat_le_largest hzero) hq h)

/-- A finite datum with its value in an interval. -/
structure F64.In (x : F64) (lo hi : Q) : Prop where
  finite : x.isFinite = true
  lower : lo ≤ x.toRat
  upper : x.toRat ≤ hi

theorem F64.abs_le_largest_of_between {q : Q} {lo hi : F64} (hl : lo.isFinite = true) (hh : hi.isFinite = true)
    (h₁ : lo.toRat ≤ q) (h₂ : q ≤ hi.toRat) : |q| ≤ F64.largest.toRat :=
  abs_le.mpr ⟨(abs_le.mp (F64.abs_toRat_le_largest hl)).1.trans h₁, h₂.trans (abs_le.mp (F64.abs_toRat_le_largest hh)).2⟩

/-- Rounding keeps a rational between two data. -/
theorem F64.round_in (z : Bool) {q : Q} {lo hi : F64} (hl : lo.isFinite = true) (hh : hi.isFinite = true)
    (h₁ : lo.toRat ≤ q) (h₂ : q ≤ hi.toRat) : (F64.round z q).In lo.toRat hi.toRat := by
  have hq := F64.abs_le_largest_of_between hl hh h₁ h₂
  obtain ⟨e, k, h⟩ := F64.round_spec z hq
  refine ⟨h.finite, ?_, ?_⟩
  · rw [← F64.round_toRat_self z hl]
    exact F64.round_mono z (F64.abs_toRat_le_largest hl) hq h₁
  · rw [← F64.round_toRat_self z hh]
    exact F64.round_mono z hq (F64.abs_toRat_le_largest hh) h₂

theorem F64.round_isFinite (z : Bool) {q : Q} (hq : |q| ≤ F64.largest.toRat) : (F64.round z q).isFinite = true := by
  obtain ⟨_, _, h⟩ := F64.round_spec z hq
  exact h.finite

/-- The rounding error below a power of two is at most a half of the last place there. -/
theorem F64.round_error (z : Bool) {q : Q} {b : ℤ} (hb : -1022 < b) (hq : |q| ≤ F64.largest.toRat) (h : |q| < 2 ^ b) :
    |(F64.round z q).toRat - q| ≤ 2 ^ (b - 54) := by
  obtain ⟨e, k, hr⟩ := F64.round_spec z hq
  have he : e < b := by
    rcases hr.below with h₁ | h₁
    · exact h₁ ▸ hb
    · exact (zpow_lt_zpow_iff_right₀ one_lt_two).mp (h₁.trans_lt h)
  rw [hr.dist]
  calc |(k : Q) - q / 2 ^ (e - 52)| * 2 ^ (e - 52) ≤ 1 / 2 * 2 ^ (e - 52) :=
        mul_le_mul_of_nonneg_right hr.half (by positivity)
    _ = 2 ^ (e - 53) := by rw [show e - 52 = e - 53 + 1 by ring, zpow_add₀ two_ne_zero]; ring
    _ ≤ 2 ^ (b - 54) := zpow_le_zpow_right₀ one_le_two (by omega)

/-! ### The operations on finite operands -/

theorem F64.isNaN_of_finite {x : F64} (h : x.isFinite = true) : x.isNaN = false := by
  simp_all [F64.isFinite, F64.isNaN]

theorem F64.isInf_of_finite {x : F64} (h : x.isFinite = true) : x.isInf = false := by
  simp_all [F64.isFinite, F64.isInf]

theorem F64.add_eq_round {x y : F64} (hx : x.isFinite = true) (hy : y.isFinite = true) :
    x.add y = F64.round (x.neg && y.neg) (x.toRat + y.toRat) := by
  simp [F64.add, F64.isNaN_of_finite, F64.isInf_of_finite, hx, hy]

theorem F64.mul_eq_round {x y : F64} (hx : x.isFinite = true) (hy : y.isFinite = true) :
    x.mul y = F64.round (x.neg != y.neg) (x.toRat * y.toRat) := by
  simp [F64.mul, F64.isNaN_of_finite, F64.isInf_of_finite, hx, hy]

theorem F64.toRat_of_isZero {y : F64} (h : y.isZero = true) : y.toRat = 0 := by
  simp only [F64.isZero, Bool.and_eq_true, beq_iff_eq] at h
  simp [F64.toRat, F64.magnitude, scaleByPow2_eq, h]

theorem F64.div_eq_round {x y : F64} (hx : x.isFinite = true) (hy : y.isFinite = true) (h0 : y.toRat ≠ 0) :
    x.div y = F64.round (x.neg != y.neg) (x.toRat / y.toRat) := by
  have hz : y.isZero = false := by
    rw [← Bool.not_eq_true]
    exact mt F64.toRat_of_isZero h0
  simp [F64.div, F64.isNaN_of_finite, F64.isInf_of_finite, hx, hy, hz]

theorem F64.negate_expField (x : F64) : x.negate.expField = x.expField := by
  rw [F64.expField, F64.negate, BitVec.extractLsb'_xor]
  simp [F64.expField]

theorem F64.negate_fracField (x : F64) : x.negate.fracField = x.fracField := by
  rw [F64.fracField, F64.negate, BitVec.extractLsb'_xor]
  simp [F64.fracField]

theorem F64.negate_neg (x : F64) : x.negate.neg = !x.neg := by
  rw [F64.neg, F64.negate, BitVec.getLsbD_xor]
  simp [F64.neg]

@[simp] theorem F64.negate_isFinite (x : F64) : x.negate.isFinite = x.isFinite := by
  rw [F64.isFinite, F64.negate_expField, F64.isFinite]

@[simp] theorem F64.negate_toRat (x : F64) : x.negate.toRat = -x.toRat := by
  rw [F64.toRat, F64.negate_neg, F64.magnitude, F64.negate_expField, F64.negate_fracField, F64.toRat, F64.magnitude]
  cases x.neg <;> simp

theorem F64.sub_eq_round {x y : F64} (hx : x.isFinite = true) (hy : y.isFinite = true) :
    x.sub y = F64.round (x.neg && !y.neg) (x.toRat - y.toRat) := by
  rw [F64.sub, F64.isNaN_of_finite hy, if_neg (by decide), F64.add_eq_round hx (by simpa using hy), F64.negate_neg,
    F64.negate_toRat, sub_eq_add_neg]

end Sys2Proof
end

section
/-! PROOFS. The filter chain keeps its state in [0, 1] and its output in [-1, 1] through every rounding (rules R294 to
R297, R362 (c)). -/

namespace Sys2Proof

@[simp] theorem F64.ofNat_one_toRat : (F64.ofNat 1).toRat = 1 := by decide +kernel
@[simp] theorem F64.ofNat_one_isFinite : (F64.ofNat 1).isFinite = true := by decide +kernel

theorem F64.abs_le_largest_of_le_two {q : Q} (h : |q| ≤ 2) : |q| ≤ F64.largest.toRat :=
  h.trans (by decide +kernel)

theorem F64.round_in_unit (z : Bool) {q : Q} (h₀ : 0 ≤ q) (h₁ : q ≤ 1) : (F64.round z q).In 0 1 := by
  simpa using F64.round_in z (F64.zero_isFinite false) F64.ofNat_one_isFinite (by simpa using h₀) (by simpa using h₁)

/-- A quarter of the last place above 1 is rounded away. -/
theorem F64.round_in_unit_of_le (z : Bool) {q : Q} (h₀ : 0 ≤ q) (h₁ : q ≤ 1 + 2 ^ (-54 : ℤ)) : (F64.round z q).In 0 1 := by
  have htop : (F64.round z (1 + 2 ^ (-54 : ℤ))).toRat = 1 := by cases z <;> decide +kernel
  have hsmall : (2 : Q) ^ (-54 : ℤ) ≤ 1 := by norm_num
  have hq : |q| ≤ F64.largest.toRat := F64.abs_le_largest_of_le_two (abs_le.mpr ⟨by linarith, by linarith⟩)
  have hhigh := F64.round_mono z hq
    (F64.abs_le_largest_of_le_two (abs_le.mpr ⟨by norm_num, by linarith⟩)) h₁
  exact ⟨F64.round_isFinite z hq, F64.round_nonneg z hq h₀, hhigh.trans_eq htop⟩

/-- The rounded complement of a datum in [0, 1] is off by at most a quarter of the last place above 1. -/
theorem F64.round_one_sub_le (z : Bool) {u : F64} (hu : u.In 0 1) :
    (F64.round z (1 - u.toRat)).toRat ≤ 1 - u.toRat + 2 ^ (-54 : ℤ) := by
  obtain ⟨-, h₀, h₁⟩ := hu
  rcases h₀.lt_or_eq with hpos | hzero
  · have hlt : |1 - u.toRat| < 2 ^ (0 : ℤ) := by
      rw [abs_of_nonneg (by linarith)]
      norm_num
      exact hpos
    have herr := F64.round_error z (by norm_num) (F64.abs_le_largest_of_le_two (hlt.le.trans (by norm_num))) hlt
    rw [zero_sub] at herr
    linarith [(abs_le.mp herr).2]
  · have hone := F64.round_toRat_self z F64.ofNat_one_isFinite
    rw [F64.ofNat_one_toRat] at hone
    rw [← hzero, sub_zero, hone]
    simp

/-- The difference of two data in [0, 1]. -/
theorem F64.sub_in {x y : F64} (hx : x.In 0 1) (hy : y.In 0 1) : (x.sub y).In (-1) 1 := by
  rw [F64.sub_eq_round hx.finite hy.finite]
  simpa using F64.round_in _ (lo := (F64.ofNat 1).negate) (by simp) F64.ofNat_one_isFinite
    (by simp; linarith [hx.lower, hy.upper]) (by simp; linarith [hx.upper, hy.lower])

namespace Machine

/-- A rising low-pass step is at most the rounded complement of the state. -/
theorem lowPass_in_of_le {c : Config} (hc : c.WellFormed) {lp x : F64} (hlp : lp.In 0 1) (hx : x.In 0 1)
    (hup : lp.toRat ≤ x.toRat) : (lowPass c lp x).In 0 1 := by
  obtain ⟨hαf, hα₀, hα₁⟩ := hc.lpfRange
  obtain ⟨z, hdeq⟩ : ∃ z, x.sub lp = F64.round z (x.toRat - lp.toRat) := ⟨_, F64.sub_eq_round hx.finite hlp.finite⟩
  rw [lowPass]
  generalize x.sub lp = d at *
  have hd : d.In 0 1 := hdeq ▸ F64.round_in_unit z (by linarith) (by linarith [hx.upper, hlp.lower])
  have hdle : d.toRat ≤ 1 - lp.toRat + 2 ^ (-54 : ℤ) := by
    refine le_trans ?_ (F64.round_one_sub_le z hlp)
    rw [hdeq]
    refine F64.round_mono z (F64.abs_le_largest_of_le_two ?_) (F64.abs_le_largest_of_le_two ?_) (by linarith [hx.upper])
    · rw [abs_of_nonneg (by linarith)]; linarith [hx.upper, hlp.lower]
    · rw [abs_of_nonneg (by linarith [hlp.upper])]; linarith [hlp.lower]
  have ht : (c.lpfAlpha.mul d).In 0 d.toRat := by
    rw [F64.mul_eq_round hαf hd.finite]
    simpa using F64.round_in _ (F64.zero_isFinite false) hd.finite (by simpa using mul_nonneg hα₀.le hd.lower)
      (mul_le_of_le_one_left hd.lower hα₁)
  rw [F64.add_eq_round hlp.finite ht.finite]
  exact F64.round_in_unit_of_le _ (add_nonneg hlp.lower ht.lower) (by linarith [ht.upper])

/-- A falling low-pass step is at most the state. -/
theorem lowPass_in_of_ge {c : Config} (hc : c.WellFormed) {lp x : F64} (hlp : lp.In 0 1) (hx : x.In 0 1)
    (hdown : x.toRat ≤ lp.toRat) : (lowPass c lp x).In 0 1 := by
  obtain ⟨hαf, hα₀, hα₁⟩ := hc.lpfRange
  obtain ⟨z, hdeq⟩ : ∃ z, x.sub lp = F64.round z (x.toRat - lp.toRat) := ⟨_, F64.sub_eq_round hx.finite hlp.finite⟩
  rw [lowPass]
  generalize x.sub lp = d at *
  have hd : d.In (-lp.toRat) 0 := by
    rw [hdeq]
    simpa using F64.round_in z (lo := lp.negate) (by simpa using hlp.finite) (F64.zero_isFinite false)
      (by simpa using hx.lower) (by simpa using hdown)
  have ht : (c.lpfAlpha.mul d).In d.toRat 0 := by
    have hle : 0 ≤ (1 - c.lpfAlpha.toRat) * -d.toRat := mul_nonneg (by linarith) (by linarith [hd.upper])
    rw [F64.mul_eq_round hαf hd.finite]
    simpa using F64.round_in _ hd.finite (F64.zero_isFinite false) (by linarith)
      (by simpa using mul_nonpos_of_nonneg_of_nonpos hα₀.le hd.upper)
  rw [F64.add_eq_round hlp.finite ht.finite]
  exact F64.round_in_unit _ (by linarith [ht.lower, hd.lower]) (by linarith [ht.upper, hlp.upper])

/-- The low-pass stage moves between its state and its input, both in [0, 1] (rule R294). -/
theorem lowPass_in {c : Config} (hc : c.WellFormed) {lp x : F64} (hlp : lp.In 0 1) (hx : x.In 0 1) :
    (lowPass c lp x).In 0 1 :=
  (le_total lp.toRat x.toRat).elim (lowPass_in_of_le hc hlp hx) (lowPass_in_of_ge hc hlp hx)

/-- The DC estimate is a mean of two numbers in [0, 1], the weights rounded (rule R296). -/
theorem dcEstimate_in {c : Config} (hc : c.WellFormed) {dc lp : F64} (hdc : dc.In 0 1) (hlp : lp.In 0 1) :
    (dcEstimate c dc lp).In 0 1 := by
  obtain ⟨hhf, hh₀, hh₁⟩ := hc.hpfRange
  set w := (F64.ofNat 1).sub c.hpfCoeff with hw
  obtain ⟨z, hweq⟩ : ∃ z, w = F64.round z (1 - c.hpfCoeff.toRat) :=
    ⟨_, by rw [hw, F64.sub_eq_round F64.ofNat_one_isFinite hhf, F64.ofNat_one_toRat]⟩
  have hwin : w.In 0 1 := hweq ▸ F64.round_in_unit _ (by linarith) (by linarith)
  have hwle : w.toRat ≤ 1 - c.hpfCoeff.toRat + 2 ^ (-54 : ℤ) := hweq ▸ F64.round_one_sub_le _ ⟨hhf, hh₀.le, hh₁.le⟩
  have hold : (c.hpfCoeff.mul dc).In 0 c.hpfCoeff.toRat := by
    rw [F64.mul_eq_round hhf hdc.finite]
    simpa using F64.round_in _ (F64.zero_isFinite false) hhf (by simpa using mul_nonneg hh₀.le hdc.lower)
      (mul_le_of_le_one_right hh₀.le hdc.upper)
  have hnew : (w.mul lp).In 0 w.toRat := by
    rw [F64.mul_eq_round hwin.finite hlp.finite]
    simpa using F64.round_in _ (F64.zero_isFinite false) hwin.finite (by simpa using mul_nonneg hwin.lower hlp.lower)
      (mul_le_of_le_one_right hwin.lower hlp.upper)
  rw [dcEstimate, ← hw, F64.add_eq_round hold.finite hnew.finite]
  exact F64.round_in_unit_of_le _ (add_nonneg hold.lower hnew.lower) (by linarith [hold.upper, hnew.upper])

theorem FilterState.ok_iff (f : FilterState) : f.Ok ↔ f.lp.In 0 1 ∧ f.dc.In 0 1 :=
  ⟨fun h => ⟨⟨h.lpFinite, h.lpRange.1, h.lpRange.2⟩, ⟨h.dcFinite, h.dcRange.1, h.dcRange.2⟩⟩,
    fun ⟨lp, dc⟩ => ⟨lp.finite, ⟨lp.lower, lp.upper⟩, dc.finite, ⟨dc.lower, dc.upper⟩⟩⟩

/-- The filter chain on an input in [0, 1]: the state stays in range and the output is a sample (rules R294 to R297). -/
theorem FilterState.advance_ok {c : Config} (hc : c.WellFormed) {f : FilterState} (hf : f.Ok) {x : F64} (hx : x.In 0 1) :
    (f.advance c x).1.Ok ∧ (f.advance c x).2.In (-1) 1 := by
  obtain ⟨hlp, hdc⟩ := f.ok_iff.mp hf
  have hlp' := lowPass_in hc hlp hx
  have hdc' := dcEstimate_in hc hdc hlp'
  exact ⟨(FilterState.ok_iff _).mpr ⟨hlp', hdc'⟩, F64.sub_in hlp' hdc'⟩

end Machine

end Sys2Proof
end

section
/-! PROOFS. The mixer is monotone in its amplitudes through every rounding, so full scale bounds it (rules R291 to R293). -/

namespace Sys2Proof

/-! ### Nonnegative data between two others -/

/-- Finite nonnegative data in rising order. -/
structure F64.Between (lo x hi : F64) : Prop where
  loFinite : lo.isFinite = true
  finite : x.isFinite = true
  hiFinite : hi.isFinite = true
  nonneg : 0 ≤ lo.toRat
  lower : lo.toRat ≤ x.toRat
  upper : x.toRat ≤ hi.toRat

namespace F64.Between

variable {a b c d x y : F64}

theorem refl (hf : x.isFinite = true) (h : 0 ≤ x.toRat) : Between x x x := ⟨hf, hf, hf, h, le_refl _, le_refl _⟩

theorem weakenLower (h : Between a x b) (hf : c.isFinite = true) (h₀ : 0 ≤ c.toRat) (hca : c.toRat ≤ a.toRat) :
    Between c x b :=
  ⟨hf, h.finite, h.hiFinite, h₀, hca.trans h.lower, h.upper⟩

/-- Rounding keeps the order. -/
theorem of_round (z₁ z₂ z₃ : Bool) {p q r : Q} (h₀ : 0 ≤ p) (hpq : p ≤ q) (hqr : q ≤ r) (hr : r ≤ F64.largest.toRat) :
    Between (F64.round z₁ p) (F64.round z₂ q) (F64.round z₃ r) := by
  have hr' : |r| ≤ F64.largest.toRat := (abs_of_nonneg (h₀.trans (hpq.trans hqr))).trans_le hr
  have hq' : |q| ≤ F64.largest.toRat := (abs_le_abs_of_nonneg (h₀.trans hpq) hqr).trans hr'
  have hp' : |p| ≤ F64.largest.toRat := (abs_le_abs_of_nonneg h₀ hpq).trans hq'
  refine ⟨F64.round_isFinite _ hp', F64.round_isFinite _ hq', F64.round_isFinite _ hr',
    F64.round_nonneg z₁ hp' h₀, ?_, ?_⟩
  · exact F64.round_toRat_eq z₁ z₂ q ▸ F64.round_mono z₁ hp' hq' hpq
  · exact F64.round_toRat_eq z₂ z₃ r ▸ F64.round_mono z₂ hq' hr' hqr

theorem add (h₁ : Between a x b) (h₂ : Between c y d) (hmax : b.toRat + d.toRat ≤ F64.largest.toRat) :
    Between (a.add c) (x.add y) (b.add d) := by
  rw [F64.add_eq_round h₁.loFinite h₂.loFinite, F64.add_eq_round h₁.finite h₂.finite,
    F64.add_eq_round h₁.hiFinite h₂.hiFinite]
  exact of_round _ _ _ (add_nonneg h₁.nonneg h₂.nonneg) (add_le_add h₁.lower h₂.lower) (add_le_add h₁.upper h₂.upper) hmax

/-- A quotient rises with its numerator and falls as its denominator rises. -/
theorem div (h₁ : Between a x b) (h₂ : Between c y d) (hc : 0 < c.toRat) (hmax : b.toRat / c.toRat ≤ F64.largest.toRat) :
    Between (a.div d) (x.div y) (b.div c) := by
  have hy := hc.trans_le h₂.lower
  have hd := hy.trans_le h₂.upper
  have hx := h₁.nonneg.trans h₁.lower
  rw [F64.div_eq_round h₁.loFinite h₂.hiFinite hd.ne', F64.div_eq_round h₁.finite h₂.finite hy.ne',
    F64.div_eq_round h₁.hiFinite h₂.loFinite hc.ne']
  exact of_round _ _ _ (div_nonneg h₁.nonneg hd.le) (div_le_div₀ hx h₁.lower hy h₂.upper)
    (div_le_div₀ (hx.trans h₁.upper) h₁.upper hc h₂.lower) hmax

theorem ofNat {l m n : Nat} (hlm : l ≤ m) (hmn : m ≤ n) (hn : (n : Q) ≤ F64.largest.toRat) :
    Between (F64.ofNat l) (F64.ofNat m) (F64.ofNat n) :=
  of_round _ _ _ (Nat.cast_nonneg l) (Nat.cast_le.mpr hlm) (Nat.cast_le.mpr hmn) hn

end F64.Between

namespace Machine

/-! ### The mixer's groups -/

/-- The pulse group is at most its full scale (rule R291). -/
theorem pulseOut_between {sq1 sq2 : Nat} (h₁ : sq1 ≤ 15) (h₂ : sq2 ≤ 15) :
    F64.Between (F64.zero false) (pulseOut sq1 sq2) (pulseOut 15 15) := by
  have hfull : pulseOut 15 15 =
      (F64.decimal 9588 2).div (((F64.ofNat 8128).div (F64.ofNat 30)).add (F64.ofNat 100)) := rfl
  by_cases h0 : sq1 + sq2 = 0
  · rw [pulseOut, if_pos h0]
    exact ⟨by simp, by simp, by decide +kernel, by simp, le_refl _, by decide +kernel⟩
  · have hsum : F64.Between (F64.ofNat 1) (F64.ofNat (sq1 + sq2)) (F64.ofNat 30) :=
      .ofNat (Nat.pos_of_ne_zero h0) (by omega) (by decide +kernel)
    have hquot := F64.Between.div (.refl (x := F64.ofNat 8128) (by decide +kernel) (by decide +kernel)) hsum
      (by decide +kernel) (by decide +kernel)
    have hden := hquot.add (.refl (x := F64.ofNat 100) (by decide +kernel) (by decide +kernel)) (by decide +kernel)
    have hout := F64.Between.div (.refl (x := F64.decimal 9588 2) (by decide +kernel) (by decide +kernel)) hden
      (by decide +kernel) (by decide +kernel)
    rw [pulseOut, if_neg h0, hfull]
    exact hout.weakenLower (by simp) (by simp) (by simpa using hout.nonneg)

/-- The weighted sum of the second group (rule R292). -/
def tndSum (tri noise dmc : Nat) : F64 :=
  (((F64.ofNat tri).div (F64.ofNat 8227)).add ((F64.ofNat noise).div (F64.ofNat 12241))).add
    ((F64.ofNat dmc).div (F64.ofNat 22638))

theorem tndOut_eq {tri noise dmc : Nat} (h : ¬(tri = 0 ∧ noise = 0 ∧ dmc = 0)) :
    tndOut tri noise dmc = (F64.decimal 15979 2).div (((F64.ofNat 1).div (tndSum tri noise dmc)).add (F64.ofNat 100)) :=
  if_neg h

theorem tndSum_between {t₀ n₀ d₀ tri noise dmc : Nat} (ht₀ : t₀ ≤ tri) (hn₀ : n₀ ≤ noise) (hd₀ : d₀ ≤ dmc)
    (ht : tri ≤ 15) (hn : noise ≤ 15) (hd : dmc ≤ 127) :
    F64.Between (tndSum t₀ n₀ d₀) (tndSum tri noise dmc) (tndSum 15 15 127) := by
  have htri := F64.Between.div (.ofNat ht₀ ht (by decide +kernel))
    (.refl (x := F64.ofNat 8227) (by decide +kernel) (by decide +kernel)) (by decide +kernel) (by decide +kernel)
  have hnoise := F64.Between.div (.ofNat hn₀ hn (by decide +kernel))
    (.refl (x := F64.ofNat 12241) (by decide +kernel) (by decide +kernel)) (by decide +kernel) (by decide +kernel)
  have hdmc := F64.Between.div (.ofNat hd₀ hd (by decide +kernel))
    (.refl (x := F64.ofNat 22638) (by decide +kernel) (by decide +kernel)) (by decide +kernel) (by decide +kernel)
  exact (htri.add hnoise (by decide +kernel)).add hdmc (by decide +kernel)

/-- Unless all three are silent, the sum is at least the smallest single weight, the DMC's. -/
theorem tndSum_between_of_sounding {tri noise dmc : Nat} (h : ¬(tri = 0 ∧ noise = 0 ∧ dmc = 0))
    (ht : tri ≤ 15) (hn : noise ≤ 15) (hd : dmc ≤ 127) :
    F64.Between (tndSum 0 0 1) (tndSum tri noise dmc) (tndSum 15 15 127) := by
  have hone : 1 ≤ tri ∨ 1 ≤ noise ∨ 1 ≤ dmc := by omega
  have hf : (tndSum 0 0 1).isFinite = true := by decide +kernel
  have h₀ : 0 ≤ (tndSum 0 0 1).toRat := by decide +kernel
  rcases hone with h | h | h
  · exact (tndSum_between h (Nat.zero_le _) (Nat.zero_le _) ht hn hd).weakenLower hf h₀ (by decide +kernel)
  · exact (tndSum_between (Nat.zero_le _) h (Nat.zero_le _) ht hn hd).weakenLower hf h₀ (by decide +kernel)
  · exact tndSum_between (Nat.zero_le _) (Nat.zero_le _) h ht hn hd

/-- The second group is at most its full scale (rule R292). -/
theorem tndOut_between {tri noise dmc : Nat} (ht : tri ≤ 15) (hn : noise ≤ 15) (hd : dmc ≤ 127) :
    F64.Between (F64.zero false) (tndOut tri noise dmc) (tndOut 15 15 127) := by
  by_cases h0 : tri = 0 ∧ noise = 0 ∧ dmc = 0
  · rw [tndOut, if_pos h0]
    exact ⟨by simp, by simp, by decide +kernel, by simp, le_refl _, by decide +kernel⟩
  · have hquot := F64.Between.div (.refl (x := F64.ofNat 1) (by decide +kernel) (by decide +kernel))
      (tndSum_between_of_sounding h0 ht hn hd) (by decide +kernel) (by decide +kernel)
    have hden := hquot.add (.refl (x := F64.ofNat 100) (by decide +kernel) (by decide +kernel)) (by decide +kernel)
    have hout := F64.Between.div (.refl (x := F64.decimal 15979 2) (by decide +kernel) (by decide +kernel)) hden
      (by decide +kernel) (by decide +kernel)
    rw [tndOut_eq h0, tndOut_eq (tri := 15) (by decide)]
    exact hout.weakenLower (by simp) (by simp) (by simpa using hout.nonneg)

/-- The mixed output is at most its full scale (rule R293). -/
theorem mix_between {sq1 sq2 tri noise dmc : Nat} (h₁ : sq1 ≤ 15) (h₂ : sq2 ≤ 15) (ht : tri ≤ 15) (hn : noise ≤ 15)
    (hd : dmc ≤ 127) : F64.Between (F64.zero false) (mix sq1 sq2 tri noise dmc) (mix 15 15 15 15 127) :=
  ((pulseOut_between h₁ h₂).add (tndOut_between ht hn hd) (by decide +kernel)).weakenLower (by simp) (by simp)
    (by decide +kernel)

theorem mix_in {sq1 sq2 tri noise dmc : Nat} (h₁ : sq1 ≤ 15) (h₂ : sq2 ≤ 15) (ht : tri ≤ 15) (hn : noise ≤ 15)
    (hd : dmc ≤ 127) : (mix sq1 sq2 tri noise dmc).In 0 1 := by
  have h := mix_between h₁ h₂ ht hn hd
  exact ⟨h.finite, by simpa using h.lower, h.upper.trans (by decide +kernel)⟩

/-! ### Amplitudes in range -/

theorem Envelope.Ok.level_le {e : Envelope} (h : e.Ok) : e.level ≤ 15 := by
  unfold Envelope.level
  split
  · exact h.param
  · exact h.decayLevel

/-- A pulse amplitude is a duty bit times an envelope level (rules R204 to R206). -/
theorem PulseChannel.amp_le {c : Config} (hc : c.WellFormed) {p : PulseChannel} (hp : p.Ok c) {a : Nat}
    (h : p.amp c = .ok a) : a ≤ 15 := by
  unfold PulseChannel.amp at h
  split_ifs at h
  · cases h; exact Nat.zero_le _
  · cases h; exact Nat.zero_le _
  · obtain ⟨out, hout, ha⟩ := bind_eq_ok.mp h
    obtain ⟨row, hrow, hbit⟩ := bind_eq_ok.mp hout
    have hmem := List.mem_of_getElem? (tableGet_eq_ok.mp hrow)
    have hle := (hc.dutyRows row hmem).2 out (List.mem_of_getElem? (tableGet_eq_ok.mp hbit))
    cases ha
    exact Nat.mul_le_mul hle hp.env.level_le

theorem TriangleChannel.amp_le {t : TriangleChannel} {a : Nat} (h : t.amp = .ok a) : a ≤ 15 := by
  obtain ⟨out, hout, ha⟩ := bind_eq_ok.mp h
  have hramp : ∀ v ∈ triangleRamp, v ≤ 15 := by decide
  cases ha
  exact Nat.mul_le_mul (hramp out (List.mem_of_getElem? (tableGet_eq_ok.mp hout))) (le_refl 1)

theorem NoiseChannel.amp_le {c : Config} {n : NoiseChannel} (h : n.Ok c) : n.amp ≤ 15 := by
  unfold NoiseChannel.amp
  split
  · exact Nat.zero_le _
  · exact Nat.mul_le_mul (Bool.toNat_le _) h.env.level_le

theorem DmcChannel.amp_le {c : Config} {d : DmcChannel} (h : d.Ok c) : d.amp ≤ 127 :=
  Nat.mul_le_mul h.level (le_refl 1)

/-- The mixed output of a block in range lies in [0, 1]. -/
theorem Apu.mixedOutput_in {c : Config} (hc : c.WellFormed) {a : Apu} (ha : a.Ok c) {x : F64}
    (h : a.mixedOutput c = .ok x) : x.In 0 1 := by
  obtain ⟨sq1, h₁, h⟩ := bind_eq_ok.mp h
  obtain ⟨sq2, h₂, h⟩ := bind_eq_ok.mp h
  obtain ⟨tri, ht, h⟩ := bind_eq_ok.mp h
  cases h
  exact mix_in (PulseChannel.amp_le hc ha.p1 h₁) (PulseChannel.amp_le hc ha.p2 h₂) (TriangleChannel.amp_le ht)
    (NoiseChannel.amp_le ha.noise) (DmcChannel.amp_le ha.dmc)

/-! ### Steps -/

/-- The sample pushed and the filter state after it, on an input in [0, 1]. -/
theorem State.emit_samplesFinite {s : State} (h : s.SamplesFinite) {x : F64} (hx : x.In 0 1) :
    (s.emit x).SamplesFinite := by
  obtain ⟨hf, hy⟩ := FilterState.advance_ok s.cfg_wellFormed h.filt hx
  refine ⟨hf, fun y hmem => ?_⟩
  rcases List.mem_append.mp hmem with hold | hnew
  · exact h.samples y hold
  · obtain rfl := List.mem_singleton.mp hnew
    exact ⟨hy.finite, hy.lower, hy.upper⟩

/-- A sample step of a good state keeps it good, its samples finite. -/
theorem sampleStep_samplesFinite {s t : State} (hinv : s.Inv) (h : s.SamplesFinite) (hst : sampleStep s = .ok t) :
    t.Inv ∧ t.SamplesFinite := by
  obtain ⟨t', ht', hinv'⟩ := sampleStep_ok hinv
  obtain rfl := Except.ok.inj (ht'.symm.trans hst)
  obtain ⟨fs, ticks, x, hfs, hx, rfl⟩ := sampleStep_cases hst
  obtain ⟨fs', ticks', hfs', hfsOk⟩ := FrameSequencer.advance_ok hinv.apu.fs s.cfg.cps
  obtain ⟨rfl, rfl⟩ := Prod.mk.inj (Except.ok.inj (hfs'.symm.trans hfs))
  have hwork := (Apu.channelWork_ok s.cfg_wellFormed hinv.apu hfsOk ticks' s.bus).1
  refine ⟨hinv', State.emit_samplesFinite ?_ (Apu.mixedOutput_in s.cfg_wellFormed hwork hx)⟩
  exact ⟨h.filt, h.samples⟩

theorem State.setSampleClock_inv {s : State} (h : s.Inv) {t : Timer} (ht : t.Positive) : (s.setSampleClock t).Inv :=
  ⟨h.mem, { h.apu with sampleClock := ht }⟩

theorem execAdv_samplesFinite {n : Nat} {s t : State} (hinv : s.Inv) (h : s.SamplesFinite) (he : execAdv n s = .next t) :
    t.SamplesFinite :=
  (sampleSteps_keeps (fun s => s.Inv ∧ s.SamplesFinite) (fun _ _ h => sampleStep_samplesFinite h.1 h.2)
    (execAdv_cases he)
    ⟨State.setSampleClock_inv hinv (Timer.advance_positive hinv.apu.sampleClock _), h.filt, h.samples⟩).2

theorem State.SameTime.samplesFinite {s t : State} (h : s.SameTime t) (hs : s.SamplesFinite) : t.SamplesFinite :=
  ⟨h.filt ▸ hs.filt, h.samples ▸ hs.samples⟩

theorem exec_samplesFinite {i : Instr} {s t : State} (hinv : s.Inv) (h : s.SamplesFinite) (he : exec i s = .next t) :
    t.SamplesFinite := by
  by_cases hi : ∃ n, i = .adv n
  · obtain ⟨n, rfl⟩ := hi
    exact execAdv_samplesFinite hinv h he
  · exact (exec_sameTime (fun n hn => hi ⟨n, hn⟩) he).samplesFinite h

/-- Settles O58: only `ADVANCE` pushes samples, and its mixer and filter chain stay in range through every rounding. -/
theorem everyStepKeepsSamplesFinite : Obligations.EveryStepKeepsSamplesFinite := by
  intro s t hinv h hst
  rcases step_cases hst with ⟨-, rfl⟩ | ⟨_, _, i, -, -, he⟩
  · exact h
  · exact exec_samplesFinite (s := s.dropPending) ⟨hinv.mem, hinv.apu⟩ ⟨h.filt, h.samples⟩ he

end Machine

end Sys2Proof
end

section
/-! PROOFS. The DMC's memory unit (rules R262 to R264). -/

namespace Sys2Proof.Machine

theorem DmcChannel.fetches_eq_false {d : DmcChannel} (h : d.buffer ≠ none ∨ d.bytesRemaining = 0) : d.fetches = false := by
  rcases h with h | h
  · cases hb : d.buffer with
    | none => exact absurd hb h
    | some b => simp [DmcChannel.fetches, hb]
  · simp [DmcChannel.fetches, h]

theorem DmcChannel.fetches_eq_true {d : DmcChannel} (hb : d.buffer = none) (hr : 0 < d.bytesRemaining) :
    d.fetches = true := by
  simp [DmcChannel.fetches, hb, hr]

theorem DmcChannel.memoryUnit_of_not_fetches {d : DmcChannel} (h : d.fetches = false) (bus : Bus) :
    d.memoryUnit bus = (d, bus) := by
  simp [DmcChannel.memoryUnit, h]

/-- A fetch takes the byte the bus answers at the current address. -/
theorem DmcChannel.memoryUnit_of_fetches {d : DmcChannel} (h : d.fetches = true) (bus : Bus) :
    d.memoryUnit bus = (d.takeByte (bus.byteAt d.curAddress), (bus.read d.curAddress).2) := by
  rw [← (Bus.read_spec bus d.curAddress).1]
  simp [DmcChannel.memoryUnit, h]

/-- Before the last byte the cursor only moves on (rules R262, R263). -/
theorem DmcChannel.takeByte_of_more {d : DmcChannel} (h : d.bytesRemaining - 1 ≠ 0) (b : Byte) :
    d.takeByte b = { d with
      buffer := some b, curAddress := nextAddress d.curAddress, bytesRemaining := d.bytesRemaining - 1 } := by
  simp [DmcChannel.takeByte, h]

/-- The last byte of a looping sample restarts it (rule R264). -/
theorem DmcChannel.takeByte_of_last_loop {d : DmcChannel} (h : d.bytesRemaining = 1) (hl : d.loop = true) (b : Byte) :
    d.takeByte b = { d with
      buffer := some b, curAddress := d.sampleAddress, bytesRemaining := d.sampleLength } := by
  simp [DmcChannel.takeByte, DmcChannel.endOfSample, DmcChannel.restart, h, hl]

/-- The last byte of another sample latches the interrupt if it is enabled (rule R264). -/
theorem DmcChannel.takeByte_of_last {d : DmcChannel} (h : d.bytesRemaining = 1) (hl : d.loop = false) (b : Byte) :
    d.takeByte b = { d with
      buffer := some b, curAddress := nextAddress d.curAddress, bytesRemaining := 0
      irqLatched := d.irqLatched || d.irqEnabled } := by
  cases hi : d.irqEnabled <;>
    simp [DmcChannel.takeByte, DmcChannel.endOfSample, DmcChannel.raiseIrq, h, hl, hi]

/-- Settles O46: one course of the memory unit for each of the three ends of a fetch. -/
theorem dmcMemoryUnitFetches : Obligations.DmcMemoryUnitFetches := by
  intro d bus
  refine ⟨fun h => DmcChannel.memoryUnit_of_not_fetches (DmcChannel.fetches_eq_false h) bus, fun hb hr => ?_⟩
  intro next
  obtain ⟨-, hmem, hlog⟩ := Bus.read_spec bus d.curAddress
  rw [DmcChannel.memoryUnit_of_fetches (DmcChannel.fetches_eq_true hb hr)]
  refine ⟨hmem, hlog, ?_⟩
  split_ifs with hlast hloop
  · exact DmcChannel.takeByte_of_last_loop hlast hloop _
  · exact DmcChannel.takeByte_of_last hlast (Bool.eq_false_iff.mpr hloop) _
  · exact DmcChannel.takeByte_of_more (by omega) _

end Sys2Proof.Machine
end

section
/-! PROOFS. What `ADVANCE` leaves alone (rules R15, R60, R130): each unit with the fields that time moves set to fixed
values (`still`) is the same before and after, so the frame composes over ticks and sample steps by transitivity. -/

namespace Sys2Proof.Machine

/-! ### The fields that time does not move -/

def LengthCounter.still (l : LengthCounter) : LengthCounter := { l with remaining := 0 }

def Envelope.still (e : Envelope) : Envelope := { e with start := false, divider := 0, decayLevel := 0 }

def Sweep.still (sw : Sweep) : Sweep := { sw with counter := 0, reload := false }

def Timer.still (t : Timer) : Timer := { t with position := 0 }

/-- A pulse channel's Timer is left out whole: the sweep writes its period. -/
def PulseChannel.still (p : PulseChannel) : PulseChannel :=
  { p with timer := ⟨0, 0⟩, step := 0, env := p.env.still, sweep := p.sweep.still, len := p.len.still }

def TriangleChannel.still (t : TriangleChannel) : TriangleChannel :=
  { t with timer := t.timer.still, step := 0, linear := 0, linReload := false, len := t.len.still }

def NoiseChannel.still (n : NoiseChannel) : NoiseChannel :=
  { n with timer := n.timer.still, lfsr := 0, env := n.env.still, len := n.len.still }

def DmcChannel.still (d : DmcChannel) : DmcChannel :=
  { d with
    timer := d.timer.still, curAddress := 0, bytesRemaining := 0, buffer := none, shiftReg := 0, bitsLeft := 0
    silence := false, level := 0, irqLatched := false }

def FrameSequencer.still (f : FrameSequencer) : FrameSequencer :=
  { f with step := 0, pending5 := false, timer := f.timer.still }

/-! ### Each unit's work keeps them -/

theorem Timer.advance_still (c : Config) (t : Timer) (n : Q) : (t.advance c n).1.still = t.still := by
  rw [Timer.advance_fst]
  rfl

theorem LengthCounter.clock_still (l : LengthCounter) (halt : Bool) : (l.clock halt).still = l.still := by
  unfold LengthCounter.clock
  split <;> rfl

theorem Envelope.advance_still (e : Envelope) : e.advance.still = e.still := by
  unfold Envelope.advance
  split
  · rfl
  · split
    · split
      · rfl
      · split <;> rfl
    · rfl

theorem Sweep.advance_still (sw : Sweep) : sw.advance.still = sw.still := by
  unfold Sweep.advance
  split
  · rfl
  · split <;> rfl

theorem PulseChannel.onQuarterFrame_still (p : PulseChannel) : p.onQuarterFrame.still = p.still := by
  rw [PulseChannel.still, PulseChannel.onQuarterFrame, Envelope.advance_still]
  rfl

theorem PulseChannel.onHalfFrame_still (c : Config) (p : PulseChannel) : (p.onHalfFrame c).still = p.still := by
  rw [PulseChannel.still, PulseChannel.onHalfFrame, Sweep.advance_still, LengthCounter.clock_still]
  rfl

theorem PulseChannel.sampleWork_still (c : Config) (ticks : List FrameTick) (p : PulseChannel) :
    (p.sampleWork c ticks).still = p.still :=
  applyFrames_keeps (fun q => q.still = p.still) (fun q h => (PulseChannel.onQuarterFrame_still q).trans h)
    (fun q h => (PulseChannel.onHalfFrame_still c q).trans h) ticks p rfl

theorem TriangleChannel.onQuarterFrame_still (t : TriangleChannel) : t.onQuarterFrame.still = t.still := by
  unfold TriangleChannel.onQuarterFrame
  split
  · rfl
  · split <;> rfl

theorem TriangleChannel.onHalfFrame_still (t : TriangleChannel) : t.onHalfFrame.still = t.still := by
  rw [TriangleChannel.still, TriangleChannel.onHalfFrame, LengthCounter.clock_still]
  rfl

theorem TriangleChannel.onTimer_still (t : TriangleChannel) (n : Nat) : (t.onTimer n).still = t.still := by
  unfold TriangleChannel.onTimer
  split <;> rfl

theorem TriangleChannel.withTimer_still (t : TriangleChannel) {u : Timer} (h : u.still = t.timer.still) :
    ({ t with timer := u } : TriangleChannel).still = t.still :=
  congrArg (fun u => { t.still with timer := u }) h

theorem TriangleChannel.sampleWork_still (c : Config) (ticks : List FrameTick) (t : TriangleChannel) :
    (t.sampleWork c ticks).still = t.still := by
  unfold TriangleChannel.sampleWork
  rw [TriangleChannel.onTimer_still, TriangleChannel.withTimer_still _ (Timer.advance_still _ _ _)]
  exact applyFrames_keeps (fun u => u.still = t.still) (fun u h => (TriangleChannel.onQuarterFrame_still u).trans h)
    (fun u h => (TriangleChannel.onHalfFrame_still u).trans h) ticks t rfl

theorem NoiseChannel.onQuarterFrame_still (n : NoiseChannel) : n.onQuarterFrame.still = n.still := by
  rw [NoiseChannel.still, NoiseChannel.onQuarterFrame, Envelope.advance_still]
  rfl

theorem NoiseChannel.onHalfFrame_still (n : NoiseChannel) : n.onHalfFrame.still = n.still := by
  rw [NoiseChannel.still, NoiseChannel.onHalfFrame, LengthCounter.clock_still]
  rfl

theorem NoiseChannel.withTimer_still (n : NoiseChannel) {u : Timer} (h : u.still = n.timer.still) :
    ({ n with timer := u } : NoiseChannel).still = n.still :=
  congrArg (fun u => { n.still with timer := u }) h

theorem NoiseChannel.sampleWork_still (c : Config) (ticks : List FrameTick) (n : NoiseChannel) :
    (n.sampleWork c ticks).still = n.still := by
  have hframes : (applyFrames NoiseChannel.onQuarterFrame NoiseChannel.onHalfFrame ticks n).still = n.still :=
    applyFrames_keeps (fun u => u.still = n.still) (fun u h => (NoiseChannel.onQuarterFrame_still u).trans h)
      (fun u h => (NoiseChannel.onHalfFrame_still u).trans h) ticks n rfl
  exact (NoiseChannel.withTimer_still _ (Timer.advance_still _ _ _)).trans hframes

theorem DmcChannel.withTimer_still (d : DmcChannel) {u : Timer} (h : u.still = d.timer.still) :
    ({ d with timer := u } : DmcChannel).still = d.still :=
  congrArg (fun u => { d.still with timer := u }) h

theorem DmcChannel.takeByte_still (d : DmcChannel) (b : Byte) : (d.takeByte b).still = d.still := by
  simp only [DmcChannel.takeByte, DmcChannel.endOfSample, DmcChannel.restart, DmcChannel.raiseIrq]
  split
  · split
    · rfl
    · split <;> rfl
  · rfl

theorem DmcChannel.outputUnit_still (d : DmcChannel) : d.outputUnit.still = d.still := by
  have hbit : d.bitStep.still = d.still := by
    unfold DmcChannel.bitStep
    split <;> rfl
  rw [← hbit]
  unfold DmcChannel.outputUnit
  generalize d.bitStep = e
  simp only [DmcChannel.byteBoundary]
  split
  · split <;> rfl
  · rfl

/-- What the DMC and the bus keep: the channel's still fields and the memory; the log only grows. -/
def DmcFrame (d₀ : DmcChannel) (b₀ : Bus) (d : DmcChannel) (b : Bus) : Prop :=
  d.still = d₀.still ∧ b.mem = b₀.mem ∧ b₀.log <+: b.log

theorem DmcFrame.memoryUnit {d₀ d : DmcChannel} {b₀ b : Bus} (h : DmcFrame d₀ b₀ d b) :
    DmcFrame d₀ b₀ (d.memoryUnit b).1 (d.memoryUnit b).2 := by
  obtain ⟨hstill, hmem, hlog⟩ := h
  cases hf : d.fetches with
  | false =>
    rw [DmcChannel.memoryUnit_of_not_fetches hf]
    exact ⟨hstill, hmem, hlog⟩
  | true =>
    obtain ⟨-, hread, hlogged⟩ := Bus.read_spec b d.curAddress
    rw [DmcChannel.memoryUnit_of_fetches hf]
    exact ⟨(DmcChannel.takeByte_still _ _).trans hstill, hread.trans hmem, hlog.trans (hlogged ▸ List.prefix_append _ _)⟩

theorem DmcFrame.tick {d₀ d : DmcChannel} {b₀ b : Bus} (h : DmcFrame d₀ b₀ d b) :
    DmcFrame d₀ b₀ (d.tick b).1 (d.tick b).2 := by
  obtain ⟨hstill, hmem, hlog⟩ := h.memoryUnit
  exact ⟨(DmcChannel.outputUnit_still _).trans hstill, hmem, hlog⟩

theorem DmcChannel.sampleWork_frame (c : Config) (d : DmcChannel) (bus : Bus) :
    DmcFrame d bus (d.sampleWork c bus).1 (d.sampleWork c bus).2 :=
  DmcChannel.onTimer_keeps (DmcFrame d bus) (fun _ _ => DmcFrame.tick) _ _ bus
    ⟨DmcChannel.withTimer_still d (Timer.advance_still _ _ _), rfl, List.prefix_refl _⟩

theorem FrameSequencer.advance_still {c : Config} {fs fs' : FrameSequencer} {n : Q} {ticks : List FrameTick}
    (h : fs.advance c n = .ok (fs', ticks)) : fs'.still = fs.still := by
  unfold FrameSequencer.advance at h
  split at h
  · obtain ⟨⟨rest, last⟩, -, h⟩ := bind_eq_ok.mp h
    obtain ⟨rfl, -⟩ := Prod.mk.inj (Except.ok.inj h)
    exact congrArg (fun t => { fs.still with timer := t }) (Timer.advance_still c fs.timer n)
  · cases h

/-! ### Sample steps -/

/-- The frame of `ADVANCE` as a relation that is reflexive and transitive. -/
structure State.Frame (s t : State) : Prop where
  config : t.config = s.config
  pending : t.pending = s.pending
  reads : t.reads = s.reads
  openBusDraws : t.openBusDraws = s.openBusDraws
  mem : t.bus.mem = s.bus.mem
  log : s.bus.log <+: t.bus.log
  samples : s.samples <+: t.samples
  fs : t.apu.fs.still = s.apu.fs.still
  sampleClock : t.apu.sampleClock.still = s.apu.sampleClock.still
  p1 : t.apu.p1.still = s.apu.p1.still
  p2 : t.apu.p2.still = s.apu.p2.still
  tri : t.apu.tri.still = s.apu.tri.still
  noise : t.apu.noise.still = s.apu.noise.still
  dmc : t.apu.dmc.still = s.apu.dmc.still

theorem State.Frame.refl (s : State) : s.Frame s :=
  ⟨rfl, rfl, rfl, rfl, rfl, List.prefix_refl _, List.prefix_refl _, rfl, rfl, rfl, rfl, rfl, rfl, rfl⟩

theorem State.Frame.trans {s t u : State} (h : s.Frame t) (k : t.Frame u) : s.Frame u where
  config := k.config.trans h.config
  pending := k.pending.trans h.pending
  reads := k.reads.trans h.reads
  openBusDraws := k.openBusDraws.trans h.openBusDraws
  mem := k.mem.trans h.mem
  log := h.log.trans k.log
  samples := h.samples.trans k.samples
  fs := k.fs.trans h.fs
  sampleClock := k.sampleClock.trans h.sampleClock
  p1 := k.p1.trans h.p1
  p2 := k.p2.trans h.p2
  tri := k.tri.trans h.tri
  noise := k.noise.trans h.noise
  dmc := k.dmc.trans h.dmc

theorem sampleStep_frame {s t : State} (h : sampleStep s = .ok t) : s.Frame t := by
  obtain ⟨fs, ticks, x, hfs, -, rfl⟩ := sampleStep_cases h
  obtain ⟨hdmc, hmem, hlog⟩ := DmcChannel.sampleWork_frame s.cfg s.apu.dmc s.bus
  exact ⟨rfl, rfl, rfl, rfl, hmem, hlog, List.prefix_append _ _, FrameSequencer.advance_still hfs, rfl,
    PulseChannel.sampleWork_still _ _ _, PulseChannel.sampleWork_still _ _ _, TriangleChannel.sampleWork_still _ _ _,
    NoiseChannel.sampleWork_still _ _ _, hdmc⟩

theorem execAdv_frame {n : Nat} {s t : State} (h : execAdv n s = .next t) : s.Frame t :=
  have hclock : s.Frame (s.setSampleClock (s.sampleTicks n).1) :=
    { State.Frame.refl s with sampleClock := Timer.advance_still _ _ _ }
  hclock.trans (sampleSteps_induction State.Frame State.Frame.refl (fun _ _ _ => State.Frame.trans)
    (fun _ _ => sampleStep_frame) (execAdv_cases h))

/-! ### The still fields read off -/

theorem Timer.of_still_eq {t u : Timer} (h : u.still = t.still) : u = { t with position := u.position } := by
  obtain ⟨hperiod, -⟩ := Timer.mk.inj h
  rw [← hperiod]

theorem LengthCounter.of_still_eq {l m : LengthCounter} (h : m.still = l.still) : m = { l with remaining := m.remaining } := by
  obtain ⟨henabled, -, hconfigured⟩ := LengthCounter.mk.inj h
  rw [← henabled, ← hconfigured]

theorem Envelope.of_still_eq {e f : Envelope} (h : f.still = e.still) :
    f = { e with start := f.start, divider := f.divider, decayLevel := f.decayLevel } := by
  obtain ⟨-, -, -, hloop, hconstant, hparam⟩ := Envelope.mk.inj h
  rw [← hloop, ← hconstant, ← hparam]

theorem Sweep.of_still_eq {sw su : Sweep} (h : su.still = sw.still) :
    su = { sw with counter := su.counter, reload := su.reload } := by
  obtain ⟨-, hperiod, hshift, hnegate, henabled, -, hconvention⟩ := Sweep.mk.inj h
  rw [← hperiod, ← hshift, ← hnegate, ← henabled, ← hconvention]

theorem PulseChannel.of_still_eq {p q : PulseChannel} (h : q.still = p.still) :
    q.sh = p.sh ∧ q.duty = p.duty ∧ q.halt = p.halt ∧ q.len.enabled = p.len.enabled ∧
      q.len.configuredLength = p.len.configuredLength ∧ q.env.loop = p.env.loop ∧
      q.env.constant = p.env.constant ∧ q.env.param = p.env.param ∧
      q.sweep = { p.sweep with counter := q.sweep.counter, reload := q.sweep.reload } := by
  obtain ⟨hsh, -, hduty, -, hhalt, henv, hsweep, hlen⟩ := PulseChannel.mk.inj h
  obtain ⟨henabled, -, hconfigured⟩ := LengthCounter.mk.inj hlen
  obtain ⟨-, -, -, hloop, hconstant, hparam⟩ := Envelope.mk.inj henv
  exact ⟨hsh, hduty, hhalt, henabled, hconfigured, hloop, hconstant, hparam, Sweep.of_still_eq hsweep⟩

theorem TriangleChannel.of_still_eq {t u : TriangleChannel} (h : u.still = t.still) :
    u = { t with
      timer := { t.timer with position := u.timer.position }
      step := u.step, linear := u.linear, linReload := u.linReload
      len := { t.len with remaining := u.len.remaining } } := by
  obtain ⟨hsh, htimer, -, -, hlinLength, -, hcontrol, hlen⟩ := TriangleChannel.mk.inj h
  rw [← hsh, ← hlinLength, ← hcontrol, ← Timer.of_still_eq htimer, ← LengthCounter.of_still_eq hlen]

theorem NoiseChannel.of_still_eq {n m : NoiseChannel} (h : m.still = n.still) :
    m = { n with
      timer := { n.timer with position := m.timer.position }
      lfsr := m.lfsr
      env := { n.env with start := m.env.start, divider := m.env.divider, decayLevel := m.env.decayLevel }
      len := { n.len with remaining := m.len.remaining } } := by
  obtain ⟨hsh, htimer, -, hmode, hhalt, henv, hlen⟩ := NoiseChannel.mk.inj h
  rw [← hsh, ← hmode, ← hhalt, ← Timer.of_still_eq htimer, ← Envelope.of_still_eq henv, ← LengthCounter.of_still_eq hlen]

theorem DmcChannel.of_still_eq {d e : DmcChannel} (h : e.still = d.still) :
    e = { d with
      timer := { d.timer with position := e.timer.position }
      curAddress := e.curAddress, bytesRemaining := e.bytesRemaining, buffer := e.buffer, shiftReg := e.shiftReg
      bitsLeft := e.bitsLeft, silence := e.silence, level := e.level, irqLatched := e.irqLatched } := by
  obtain ⟨hsh, htimer, haddress, hlength, -, -, -, -, -, -, -, hloop, hirq, -⟩ := DmcChannel.mk.inj h
  rw [← hsh, ← haddress, ← hlength, ← hloop, ← hirq, ← Timer.of_still_eq htimer]

/-- Settles O23: the frame of one sample step, composed over the steps an `ADVANCE` runs. -/
theorem advanceFrame : Obligations.AdvanceFrame := by
  intro n s t h
  have f := execAdv_frame h
  obtain ⟨hmode, -, -, htimer⟩ := FrameSequencer.mk.inj f.fs
  exact ⟨f.config, f.pending, f.reads, f.openBusDraws, f.mem, f.log, f.samples, hmode, (Timer.mk.inj htimer).1,
    (Timer.mk.inj f.sampleClock).1, PulseChannel.of_still_eq f.p1, PulseChannel.of_still_eq f.p2,
    TriangleChannel.of_still_eq f.tri, NoiseChannel.of_still_eq f.noise, DmcChannel.of_still_eq f.dmc⟩

end Sys2Proof.Machine
end

section
/-! PROOFS. A newly constructed block is in the invariants (rules R11, R44, R380). -/

namespace Sys2Proof.Machine

theorem getElem?_zero_getD {l : List Nat} {n : Nat} (h : l.length = n + 1) : l[0]? = some ((l[0]?).getD 0) := by
  cases l with
  | nil => cases h
  | cons a l => rfl

/-- What the operand fields of a zero byte are (rule R44). -/
theorem zeroByte_fields : 0 = dutyField 0x00 ∧ false = haltLoopField 0x00 ∧ false = constantField 0x00 ∧
    0 = paramField 0x00 ∧ false = sweepEnabledField 0x00 ∧ 0 = sweepPeriodField 0x00 ∧ false = sweepNegateField 0x00 ∧
    0 = sweepShiftField 0x00 ∧ false = controlField 0x00 ∧ 0 = linLengthField 0x00 ∧ false = noiseModeField 0x00 ∧
    0 = periodIndexField 0x00 ∧ false = irqEnabledField 0x00 ∧ false = loopField 0x00 ∧ 0 = periodValue Shadow.zero := by
  decide

theorem PulseChannel.construct_matchesShadow (c : Config) (k : SweepConvention) :
    (PulseChannel.construct c k).MatchesShadow := by
  obtain ⟨duty, halt, constant, param, enabled, period, negate, shift, -⟩ := zeroByte_fields
  exact ⟨duty, halt, halt, constant, param, enabled, period, negate, shift⟩

theorem TriangleChannel.construct_matchesShadow (c : Config) : (TriangleChannel.construct c).MatchesShadow c := by
  obtain ⟨-, -, -, -, -, -, -, -, control, linLength, -, -, -, -, periodValue⟩ := zeroByte_fields
  exact ⟨control, linLength, congrArg (fun t => c.clampP ((c.trianglePeriod.apply t : Nat) : Q)) periodValue⟩

theorem NoiseChannel.construct_matchesShadow {c : Config} (hc : c.WellFormed) :
    (NoiseChannel.construct c).MatchesShadow c := by
  obtain ⟨-, halt, constant, param, -, -, -, -, -, -, mode, index, -⟩ := zeroByte_fields
  exact ⟨halt, halt, constant, param, mode, _,
    (congrArg (c.noisePeriodTable[·]?) index).symm.trans (getElem?_zero_getD hc.noiseSize), rfl⟩

theorem DmcChannel.construct_matchesShadow {c : Config} (hc : c.WellFormed) : (DmcChannel.construct c).MatchesShadow c := by
  obtain ⟨-, -, -, -, -, -, -, -, -, -, -, index, irqEnabled, loop, -⟩ := zeroByte_fields
  exact ⟨irqEnabled, loop,
    ⟨_, (congrArg (c.dmcRateTable[·]?) index).symm.trans (getElem?_zero_getD hc.dmcRateSize), rfl⟩, rfl, rfl⟩

/-- Every derived field of a new block is that of its zero shadow bytes. -/
theorem State.ofConfig_matchesShadow (c : AcceptedConfig) : (State.ofConfig c).MatchesShadow where
  p1 := PulseChannel.construct_matchesShadow _ _
  p2 := PulseChannel.construct_matchesShadow _ _
  tri := TriangleChannel.construct_matchesShadow _
  noise := NoiseChannel.construct_matchesShadow c.wellFormed
  dmc := DmcChannel.construct_matchesShadow c.wellFormed
  framePeriod := .inl rfl
  samplePeriod := rfl
  convention1 := rfl
  convention2 := rfl

theorem State.ofConfig_inv (c : AcceptedConfig) : (State.ofConfig c).Inv :=
  ⟨rfl, Apu.construct_ok c.wellFormed⟩

theorem State.ofConfig_samplesFinite (c : AcceptedConfig) : (State.ofConfig c).SamplesFinite where
  filt := (FilterState.ok_iff _).mpr
    ⟨⟨F64.zero_isFinite false, by simp [Apu.construct], by simp [Apu.construct]⟩,
      ⟨F64.zero_isFinite false, by simp [Apu.construct], by simp [Apu.construct]⟩⟩
  samples := by simp

/-- Settles O55: construction is `State.ofConfig` of an admitted configuration, which meets each invariant. -/
theorem constructionMeetsTheInvariants : Obligations.ConstructionMeetsTheInvariants := by
  have hdefault := Config.default.check_iff.mp Config.default_accepted
  refine ⟨fun c => ⟨fun h => ?_, State.construct_of_not_wellFormed⟩, hdefault, State.construct_of_wellFormed hdefault,
    State.cfg_wellFormed⟩
  exact ⟨_, State.construct_of_wellFormed h, rfl, State.ofConfig_inv _, State.ofConfig_matchesShadow _,
    State.ofConfig_samplesFinite _, rfl, rfl⟩

end Sys2Proof.Machine
end

section
/-! PROOFS. Every operation of a good state completes, in a good state (rules R46, R361). -/

namespace Sys2Proof.Machine

/-! ### Table reads of the register writes -/

theorem tableGet_lengthTable {c : Config} (hc : c.WellFormed) (data : Byte) :
    ∃ v, tableGet .lengthTable c.lengthTable (lengthIndexField data) = .ok v ∧ v ≤ 255 := by
  obtain ⟨v, hmem, -, hget⟩ := tableGet_of_lt .lengthTable (hc.lengthSize ▸ lengthIndexField_lt data)
  exact ⟨v, hget, hc.lengthRange v hmem⟩

/-- The noise period table and the DMC rate table have an entry for every index field. -/
theorem tableGet_periodIndex (name : TableName) {table : List Nat} (h : table.length = 16) (data : Byte) :
    ∃ p, tableGet name table (periodIndexField data) = .ok p := by
  obtain ⟨p, -, -, hget⟩ := tableGet_of_lt name (h ▸ periodIndexField_lt data)
  exact ⟨p, hget⟩

/-! ### Each unit's writes stay in range -/

theorem Timer.Ok.setPeriodNat {c : Config} (hc : c.WellFormed) {t : Timer} (h : t.Ok c) (p : Nat) :
    (t.setPeriod c (p : Q)).Ok c :=
  Timer.setPeriod_ok hc h (Nat.cast_nonneg p)

theorem Envelope.Ok.configure {e : Envelope} (h : e.Ok) (loop constant : Bool) (data : Byte) :
    (e.configure loop constant (paramField data)).Ok :=
  { h with param := paramField_le data }

namespace PulseChannel.Ok

variable {c : Config} {p : PulseChannel}

theorem writeCtrl (h : p.Ok c) (data : Byte) : (p.writeCtrl data).Ok c :=
  { h with duty := dutyField_lt data, env := h.env.configure _ _ data }

theorem writeSweep (h : p.Ok c) (data : Byte) : (p.writeSweep data).Ok c :=
  { h with sweep := ⟨h.sweep.counter, sweepPeriodField_le data, sweepShiftField_le data⟩ }

theorem loadPeriod (hc : c.WellFormed) (h : p.Ok c) : (p.loadPeriod c).Ok c :=
  { h with timer := h.timer.setPeriodNat hc _, integral := clampP_integral ⟨_, rfl⟩ }

theorem writeTlo (hc : c.WellFormed) (h : p.Ok c) (data : Byte) : (p.writeTlo c data).Ok c :=
  loadPeriod hc { h with }

theorem writeThi (hc : c.WellFormed) (h : p.Ok c) (data : Byte) : ∃ q, p.writeThi c data = .ok q ∧ q.Ok c := by
  obtain ⟨v, hget, hv⟩ := tableGet_lengthTable hc data
  have hload : (({ p with sh := { p.sh with sh3 := data } } : PulseChannel).loadPeriod c).Ok c :=
    loadPeriod hc { h with }
  refine ⟨_, bind_eq_ok.mpr ⟨v, hget, rfl⟩,
    { hload with step := ?_, env := { h.env with }, len := LengthCounter.setConfigured_ok hv h.len }⟩
  dsimp only
  split
  · exact Nat.succ_pos 7
  · exact h.step

end PulseChannel.Ok

namespace TriangleChannel.Ok

variable {c : Config} {t : TriangleChannel}

theorem writeLinear (h : t.Ok c) (data : Byte) : (t.writeLinear data).Ok c :=
  { h with linLength := linLengthField_le data }

theorem writeUnused (h : t.Ok c) (data : Byte) : (t.writeUnused data).Ok c := { h with }

theorem writeTlo (hc : c.WellFormed) (h : t.Ok c) (data : Byte) : (t.writeTlo c data).Ok c :=
  { h with timer := h.timer.setPeriodNat hc _ }

theorem writeThi (hc : c.WellFormed) (h : t.Ok c) (data : Byte) : ∃ u, t.writeThi c data = .ok u ∧ u.Ok c := by
  obtain ⟨v, hget, hv⟩ := tableGet_lengthTable hc data
  exact ⟨_, bind_eq_ok.mpr ⟨v, hget, rfl⟩,
    { h with timer := h.timer.setPeriodNat hc _, len := LengthCounter.setConfigured_ok hv h.len }⟩

end TriangleChannel.Ok

namespace NoiseChannel.Ok

variable {c : Config} {n : NoiseChannel}

theorem writeCtrl (h : n.Ok c) (data : Byte) : (n.writeCtrl data).Ok c :=
  { h with env := h.env.configure _ _ data }

theorem writeUnused (h : n.Ok c) (data : Byte) : (n.writeUnused data).Ok c := { h with }

theorem writePeriod (hc : c.WellFormed) (h : n.Ok c) (data : Byte) : ∃ m, n.writePeriod c data = .ok m ∧ m.Ok c := by
  obtain ⟨p, hget⟩ := tableGet_periodIndex .noisePeriodTable hc.noiseSize data
  exact ⟨_, bind_eq_ok.mpr ⟨p, hget, rfl⟩, { h with timer := h.timer.setPeriodNat hc p }⟩

theorem writeLen (hc : c.WellFormed) (h : n.Ok c) (data : Byte) : ∃ m, n.writeLen c data = .ok m ∧ m.Ok c := by
  obtain ⟨v, hget, hv⟩ := tableGet_lengthTable hc data
  exact ⟨_, bind_eq_ok.mpr ⟨v, hget, rfl⟩,
    { h with env := { h.env with }, len := LengthCounter.setConfigured_ok hv h.len }⟩

end NoiseChannel.Ok

namespace DmcChannel.Ok

variable {c : Config} {d : DmcChannel}

theorem writeCtrl (hc : c.WellFormed) (h : d.Ok c) (data : Byte) : ∃ e, d.writeCtrl c data = .ok e ∧ e.Ok c := by
  obtain ⟨p, hget⟩ := tableGet_periodIndex .dmcRateTable hc.dmcRateSize data
  refine ⟨_, bind_eq_ok.mpr ⟨p, hget, rfl⟩, ?_⟩
  split <;> exact { h with timer := h.timer.setPeriodNat hc p }

theorem writeLevel (h : d.Ok c) (data : Byte) : (d.writeLevel data).Ok c := { h with level := levelField_le data }

theorem writeAddr (h : d.Ok c) (data : Byte) : (d.writeAddr c data).Ok c := { h with }

theorem writeLen (hc : c.WellFormed) (h : d.Ok c) (data : Byte) : (d.writeLen c data).Ok c :=
  { h with sampleLength := hc.sampleLengthMap.2 _ data.isLt }

theorem setEnabled (h : d.Ok c) (e : Bool) : (d.setEnabled e).Ok c := by
  unfold DmcChannel.setEnabled
  split
  · split
    · exact { h with bytesRemaining := h.sampleLength.2 }
    · exact h
  · exact { h with bytesRemaining := Nat.zero_le _ }

end DmcChannel.Ok

theorem FrameSequencer.Ok.setMode {c : Config} (hc : c.WellFormed) {f : FrameSequencer} (h : f.Ok) (m : FrameMode) :
    (f.setMode c m).Ok := by
  have hsteps : 0 < m.steps := by cases m <;> decide
  exact ⟨Timer.setPeriod_positive hc h.timer (div_pos hc.frameTotal (Nat.cast_pos.mpr hsteps)), hsteps⟩

theorem Apu.Ok.writeEnables {c : Config} {a : Apu} (h : a.Ok c) (data : Byte) : (a.writeEnables data).Ok c :=
  { h with
    p1 := { h.p1 with len := LengthCounter.setEnabled_ok _ h.p1.len }
    p2 := { h.p2 with len := LengthCounter.setEnabled_ok _ h.p2.len }
    tri := { h.tri with len := LengthCounter.setEnabled_ok _ h.tri.len }
    noise := { h.noise with len := LengthCounter.setEnabled_ok _ h.noise.len }
    dmc := h.dmc.setEnabled _ }

/-! ### Each update of the state keeps the invariant -/

namespace State.Inv

variable {s : State}

theorem setP1 (h : s.Inv) {p : PulseChannel} (hp : p.Ok s.cfg) : (s.setP1 p).Inv := ⟨h.mem, { h.apu with p1 := hp }⟩

theorem setP2 (h : s.Inv) {p : PulseChannel} (hp : p.Ok s.cfg) : (s.setP2 p).Inv := ⟨h.mem, { h.apu with p2 := hp }⟩

theorem setTri (h : s.Inv) {t : TriangleChannel} (ht : t.Ok s.cfg) : (s.setTri t).Inv :=
  ⟨h.mem, { h.apu with tri := ht }⟩

theorem setNoise (h : s.Inv) {n : NoiseChannel} (hn : n.Ok s.cfg) : (s.setNoise n).Inv :=
  ⟨h.mem, { h.apu with noise := hn }⟩

theorem setDmc (h : s.Inv) {d : DmcChannel} (hd : d.Ok s.cfg) : (s.setDmc d).Inv := ⟨h.mem, { h.apu with dmc := hd }⟩

theorem setFs (h : s.Inv) {f : FrameSequencer} (hf : f.Ok) : (s.setFs f).Inv := ⟨h.mem, { h.apu with fs := hf }⟩

theorem dropPending (h : s.Inv) : s.dropPending.Inv := ⟨h.mem, h.apu⟩

end State.Inv

/-! ### Every operation completes -/

/-- A write that reads a table completes with the state its channel is set in. -/
theorem toOutcome_map_completes {α : Type} {r : Except Fault α} {set : α → State} {Q : α → Prop} {P : State → Prop}
    (hr : ∃ v, r = .ok v ∧ Q v) (hset : ∀ {v}, Q v → P (set v)) : ∃ t, toOutcome (r.map set) = .next t ∧ P t := by
  obtain ⟨v, rfl, hv⟩ := hr
  exact ⟨set v, rfl, hset hv⟩

/-- An open-bus read completes and leaves block and bus as they are. -/
theorem readOpenBus_inv (off : Offset) {s : State} (h : s.Inv) : ∃ t, readOpenBus off s = .next t ∧ t.Inv :=
  ⟨_, rfl, h.mem, h.apu⟩

theorem execAdv_inv (n : Nat) {s : State} (h : s.Inv) : ∃ t, execAdv n s = .next t ∧ t.Inv := by
  have hclock := State.setSampleClock_inv h (Timer.advance_positive (c := s.cfg) h.apu.sampleClock n)
  obtain ⟨t, ht, hinv⟩ := sampleSteps_total State.Inv (fun _ => sampleStep_ok) (s.sampleTicks n).2 _ hclock
  exact ⟨t, toOutcome_eq_next.mpr ht, hinv⟩

theorem exec_inv (i : Instr) {s : State} (h : s.Inv) : ∃ t, exec i s = .next t ∧ t.Inv := by
  have hc := s.cfg_wellFormed
  cases i with
  | wrP1Ctrl data => exact ⟨_, rfl, h.setP1 (h.apu.p1.writeCtrl data)⟩
  | wrP1Sweep data => exact ⟨_, rfl, h.setP1 (h.apu.p1.writeSweep data)⟩
  | wrP1Tlo data => exact ⟨_, rfl, h.setP1 (h.apu.p1.writeTlo hc data)⟩
  | wrP1Thi data => exact toOutcome_map_completes (h.apu.p1.writeThi hc data) h.setP1
  | wrP2Ctrl data => exact ⟨_, rfl, h.setP2 (h.apu.p2.writeCtrl data)⟩
  | wrP2Sweep data => exact ⟨_, rfl, h.setP2 (h.apu.p2.writeSweep data)⟩
  | wrP2Tlo data => exact ⟨_, rfl, h.setP2 (h.apu.p2.writeTlo hc data)⟩
  | wrP2Thi data => exact toOutcome_map_completes (h.apu.p2.writeThi hc data) h.setP2
  | wrTriLinear data => exact ⟨_, rfl, h.setTri (h.apu.tri.writeLinear data)⟩
  | wrTriUnused data => exact ⟨_, rfl, h.setTri (h.apu.tri.writeUnused data)⟩
  | wrTriTlo data => exact ⟨_, rfl, h.setTri (h.apu.tri.writeTlo hc data)⟩
  | wrTriThi data => exact toOutcome_map_completes (h.apu.tri.writeThi hc data) h.setTri
  | wrNoiseCtrl data => exact ⟨_, rfl, h.setNoise (h.apu.noise.writeCtrl data)⟩
  | wrNoiseUnused data => exact ⟨_, rfl, h.setNoise (h.apu.noise.writeUnused data)⟩
  | wrNoisePeriod data => exact toOutcome_map_completes (h.apu.noise.writePeriod hc data) h.setNoise
  | wrNoiseLen data => exact toOutcome_map_completes (h.apu.noise.writeLen hc data) h.setNoise
  | wrDmcCtrl data => exact toOutcome_map_completes (h.apu.dmc.writeCtrl hc data) h.setDmc
  | wrDmcLevel data => exact ⟨_, rfl, h.setDmc (h.apu.dmc.writeLevel data)⟩
  | wrDmcAddr data => exact ⟨_, rfl, h.setDmc (h.apu.dmc.writeAddr data)⟩
  | wrDmcLen data => exact ⟨_, rfl, h.setDmc (h.apu.dmc.writeLen hc data)⟩
  | wrStatus data => exact ⟨_, rfl, h.mem, h.apu.writeEnables data⟩
  | wrFrame data => exact ⟨_, rfl, h.setFs (h.apu.fs.setMode hc _)⟩
  | wrUnmapped14 data | wrUnmapped16 data | wrUnmapped18 data | wrUnmapped19 data | wrUnmapped1A data
  | wrUnmapped1B data | wrUnmapped1C data | wrUnmapped1D data | wrUnmapped1E data | wrUnmapped1F data =>
    exact ⟨s, rfl, h⟩
  | rdStatus => exact ⟨_, rfl, h.mem, h.apu⟩
  | rdOpen00 | rdOpen01 | rdOpen02 | rdOpen03 | rdOpen04 | rdOpen05 | rdOpen06 | rdOpen07 | rdOpen08 | rdOpen09
  | rdOpen0A | rdOpen0B | rdOpen0C | rdOpen0D | rdOpen0E | rdOpen0F | rdOpen10 | rdOpen11 | rdOpen12 | rdOpen13
  | rdOpen14 | rdOpen16 | rdOpen17 | rdOpen18 | rdOpen19 | rdOpen1A | rdOpen1B | rdOpen1C | rdOpen1D | rdOpen1E
  | rdOpen1F => exact readOpenBus_inv _ h
  | adv n => exact execAdv_inv n h

/-- Settles O54: a step is idle or runs one operation, and the one next state of an operation is a good one. -/
theorem everyStepKeepsTheRanges : Obligations.EveryStepKeepsTheRanges := by
  intro s t h hst
  rcases step_cases hst with ⟨-, rfl⟩ | ⟨_, _, i, -, -, he⟩
  · exact h
  · obtain ⟨t', he', hinv⟩ := exec_inv i h.dropPending
    exact Host.Outcome.next.inj (he'.symm.trans he) ▸ hinv

/-- A step faults only by the operation it runs. -/
theorem step_eq_fault {s : State} {f : Fault} (h : step s = .fault f) : ∃ i, exec i s.dropPending = .fault f := by
  cases hp : s.pending with
  | nil => exact nomatch (step_of_pending_nil hp).symm.trans h
  | cons tr rest =>
    cases hd : decode tr with
    | ok i => exact ⟨i, (step_of_decode hp hd).symm.trans h⟩
    | error why =>
      rw [step, hp] at h
      simp only [hd] at h
      cases h

/-- Settles O53: every operation of a good state completes, so none faults. -/
theorem noGoodStateReachesFatal : Obligations.NoGoodStateReachesFatal := by
  refine fun s h => ⟨fun f hf => ?_, fun i => ?_⟩
  · obtain ⟨i, hi⟩ := step_eq_fault hf
    obtain ⟨t, ht, -⟩ := exec_inv i h.dropPending
    exact nomatch ht.symm.trans hi
  · obtain ⟨t, ht, -⟩ := exec_inv i h
    exact ⟨t, ht⟩

end Sys2Proof.Machine
end

section
/-! PROOFS. Every step keeps the derived fields in agreement with the shadow bytes (rules R22, R98): a write sets a
shadow byte together with the fields it determines, and `ADVANCE` moves none of them. -/

namespace Sys2Proof.Machine

/-! ### What holds of the state an operation completes in -/

/-- An operation that only completes has one next state. -/
theorem holds_of_next {P : State → Prop} {u t : State}
    (h : (Host.Outcome.next u : Host.Outcome State Fault Refusal) = .next t) (hu : P u) : P t :=
  Host.Outcome.next.inj h ▸ hu

/-- A write that reads a table completes with a value the read allows. -/
theorem holds_of_map {α : Type} {r : Except Fault α} {set : α → State} {P : State → Prop} {t : State}
    (h : toOutcome (r.map set) = .next t) (hset : ∀ v, r = .ok v → P (set v)) : P t := by
  obtain ⟨v, hv, rfl⟩ := map_eq_ok.mp (toOutcome_eq_next.mp h)
  exact hset v hv

/-! ### Each unit's writes -/

namespace PulseChannel.MatchesShadow

variable {p : PulseChannel}

theorem writeCtrl (h : p.MatchesShadow) (data : Byte) : (p.writeCtrl data).MatchesShadow :=
  { h with duty := rfl, halt := rfl, envLoop := rfl, constant := rfl, param := rfl }

theorem writeSweep (h : p.MatchesShadow) (data : Byte) : (p.writeSweep data).MatchesShadow :=
  { h with sweepEnabled := rfl, sweepPeriod := rfl, sweepNegate := rfl, sweepShift := rfl }

theorem writeTlo (h : p.MatchesShadow) (c : Config) (data : Byte) : (p.writeTlo c data).MatchesShadow := { h with }

/-- The length load writes no field of the sweep, its convention among them. -/
theorem writeThi (h : p.MatchesShadow) {c : Config} {data : Byte} {q : PulseChannel} (hq : p.writeThi c data = .ok q) :
    q.MatchesShadow ∧ q.sweep.convention = p.sweep.convention := by
  obtain ⟨_, -, hq⟩ := bind_eq_ok.mp hq
  cases hq
  exact ⟨{ h with }, rfl⟩

end PulseChannel.MatchesShadow

namespace TriangleChannel.MatchesShadow

variable {c : Config} {t : TriangleChannel}

theorem writeLinear (h : t.MatchesShadow c) (data : Byte) : (t.writeLinear data).MatchesShadow c :=
  { h with control := rfl, linLength := rfl }

theorem writeUnused (h : t.MatchesShadow c) (data : Byte) : (t.writeUnused data).MatchesShadow c := { h with }

theorem writeTlo (h : t.MatchesShadow c) (data : Byte) : (t.writeTlo c data).MatchesShadow c := { h with period := rfl }

theorem writeThi (h : t.MatchesShadow c) {data : Byte} {u : TriangleChannel} (hu : t.writeThi c data = .ok u) :
    u.MatchesShadow c := by
  obtain ⟨_, -, hu⟩ := bind_eq_ok.mp hu
  cases hu
  exact { h with period := rfl }

end TriangleChannel.MatchesShadow

namespace NoiseChannel.MatchesShadow

variable {c : Config} {n m : NoiseChannel} {data : Byte}

theorem writeCtrl (h : n.MatchesShadow c) (data : Byte) : (n.writeCtrl data).MatchesShadow c :=
  { h with halt := rfl, envLoop := rfl, constant := rfl, param := rfl }

theorem writeUnused (h : n.MatchesShadow c) (data : Byte) : (n.writeUnused data).MatchesShadow c := { h with }

theorem writePeriod (h : n.MatchesShadow c) (hm : n.writePeriod c data = .ok m) : m.MatchesShadow c := by
  obtain ⟨p, hget, hm⟩ := bind_eq_ok.mp hm
  cases hm
  exact { h with mode := rfl, period := ⟨p, tableGet_eq_ok.mp hget, rfl⟩ }

theorem writeLen (h : n.MatchesShadow c) (hm : n.writeLen c data = .ok m) : m.MatchesShadow c := by
  obtain ⟨_, -, hm⟩ := bind_eq_ok.mp hm
  cases hm
  exact { h with }

end NoiseChannel.MatchesShadow

namespace DmcChannel.MatchesShadow

variable {c : Config} {d : DmcChannel}

theorem writeCtrl (h : d.MatchesShadow c) {data : Byte} {e : DmcChannel} (he : d.writeCtrl c data = .ok e) :
    e.MatchesShadow c := by
  obtain ⟨p, hget, he⟩ := bind_eq_ok.mp he
  cases he
  split <;> exact { h with irqEnabled := rfl, loop := rfl, period := ⟨p, tableGet_eq_ok.mp hget, rfl⟩ }

theorem writeLevel (h : d.MatchesShadow c) (data : Byte) : (d.writeLevel data).MatchesShadow c := { h with }

theorem writeAddr (h : d.MatchesShadow c) (data : Byte) : (d.writeAddr c data).MatchesShadow c :=
  { h with sampleAddress := rfl }

theorem writeLen (h : d.MatchesShadow c) (data : Byte) : (d.writeLen c data).MatchesShadow c :=
  { h with sampleLength := rfl }

theorem setEnabled (h : d.MatchesShadow c) (e : Bool) : (d.setEnabled e).MatchesShadow c := by
  unfold DmcChannel.setEnabled
  split
  · split
    · exact { h with }
    · exact h
  · exact { h with }

end DmcChannel.MatchesShadow

/-! ### Each update of the state -/

namespace State.MatchesShadow

variable {s t : State}

theorem setP1 (h : s.MatchesShadow) {p : PulseChannel} (hp : p.MatchesShadow)
    (hconvention : p.sweep.convention = s.apu.p1.sweep.convention) : (s.setP1 p).MatchesShadow :=
  { h with p1 := hp, convention1 := hconvention.trans h.convention1 }

theorem setP2 (h : s.MatchesShadow) {p : PulseChannel} (hp : p.MatchesShadow)
    (hconvention : p.sweep.convention = s.apu.p2.sweep.convention) : (s.setP2 p).MatchesShadow :=
  { h with p2 := hp, convention2 := hconvention.trans h.convention2 }

theorem setTri (h : s.MatchesShadow) {u : TriangleChannel} (hu : u.MatchesShadow s.cfg) : (s.setTri u).MatchesShadow :=
  { h with tri := hu }

theorem setNoise (h : s.MatchesShadow) {n : NoiseChannel} (hn : n.MatchesShadow s.cfg) : (s.setNoise n).MatchesShadow :=
  { h with noise := hn }

theorem setDmc (h : s.MatchesShadow) {d : DmcChannel} (hd : d.MatchesShadow s.cfg) : (s.setDmc d).MatchesShadow :=
  { h with dmc := hd }

/-- Every mode write passes the mode's period through the policy (rule R145). -/
theorem setMode (h : s.MatchesShadow) (m : FrameMode) : (s.setFs (s.apu.fs.setMode s.cfg m)).MatchesShadow :=
  { h with framePeriod := .inr rfl }

theorem writeEnables (h : s.MatchesShadow) (data : Byte) :
    ({ s with apu := s.apu.writeEnables data } : State).MatchesShadow :=
  { h with
    p1 := { h.p1 with }
    p2 := { h.p2 with }
    tri := { h.tri with }
    noise := { h.noise with }
    dmc := h.dmc.setEnabled _ }

theorem dropPending (h : s.MatchesShadow) : s.dropPending.MatchesShadow := { h with }

end State.MatchesShadow

/-! ### `ADVANCE` -/

theorem PulseChannel.MatchesShadow.of_still_eq {p q : PulseChannel} (h : p.MatchesShadow) (hstill : q.still = p.still) :
    q.MatchesShadow := by
  obtain ⟨hsh, hduty, hhalt, -, -, hloop, hconstant, hparam, hsweep⟩ := PulseChannel.of_still_eq hstill
  constructor <;> rw [hsh]
  · exact hduty.trans h.duty
  · exact hhalt.trans h.halt
  · exact hloop.trans h.envLoop
  · exact hconstant.trans h.constant
  · exact hparam.trans h.param
  · rw [hsweep]; exact h.sweepEnabled
  · rw [hsweep]; exact h.sweepPeriod
  · rw [hsweep]; exact h.sweepNegate
  · rw [hsweep]; exact h.sweepShift

theorem TriangleChannel.MatchesShadow.of_still_eq {c : Config} {t u : TriangleChannel} (h : t.MatchesShadow c)
    (hstill : u.still = t.still) : u.MatchesShadow c := by
  rw [TriangleChannel.of_still_eq hstill]
  exact { h with }

theorem NoiseChannel.MatchesShadow.of_still_eq {c : Config} {n m : NoiseChannel} (h : n.MatchesShadow c)
    (hstill : m.still = n.still) : m.MatchesShadow c := by
  rw [NoiseChannel.of_still_eq hstill]
  exact { h with }

theorem DmcChannel.MatchesShadow.of_still_eq {c : Config} {d e : DmcChannel} (h : d.MatchesShadow c)
    (hstill : e.still = d.still) : e.MatchesShadow c := by
  rw [DmcChannel.of_still_eq hstill]
  exact { h with }

/-- The frame of `ADVANCE` holds every shadow byte and every field one determines. -/
theorem State.MatchesShadow.of_frame {s t : State} (h : s.MatchesShadow) (f : s.Frame t) : t.MatchesShadow := by
  have hcfg : t.cfg = s.cfg := congrArg AcceptedConfig.record f.config
  obtain ⟨hmode, -, -, hframe⟩ := FrameSequencer.mk.inj f.fs
  obtain ⟨hperiod, -⟩ := Timer.mk.inj hframe
  obtain ⟨hsample, -⟩ := Timer.mk.inj f.sampleClock
  have hconvention {p q : PulseChannel} (hstill : q.still = p.still) : q.sweep.convention = p.sweep.convention :=
    congrArg (fun p => p.sweep.convention) hstill
  exact {
    p1 := h.p1.of_still_eq f.p1
    p2 := h.p2.of_still_eq f.p2
    tri := hcfg ▸ h.tri.of_still_eq f.tri
    noise := hcfg ▸ h.noise.of_still_eq f.noise
    dmc := hcfg ▸ h.dmc.of_still_eq f.dmc
    framePeriod := by rw [hperiod, hmode, hcfg]; exact h.framePeriod
    samplePeriod := by rw [hsample, hcfg]; exact h.samplePeriod
    convention1 := by rw [hconvention f.p1, hcfg]; exact h.convention1
    convention2 := by rw [hconvention f.p2, hcfg]; exact h.convention2 }

/-! ### Steps -/

theorem readOpenBus_matchesShadow {off : Offset} {s t : State} (h : s.MatchesShadow)
    (hst : readOpenBus off s = .next t) : t.MatchesShadow :=
  holds_of_next hst { h with }

theorem exec_matchesShadow {i : Instr} {s t : State} (h : s.MatchesShadow) (hst : exec i s = .next t) :
    t.MatchesShadow := by
  cases i with
  | wrP1Ctrl data => exact holds_of_next hst (h.setP1 (h.p1.writeCtrl data) rfl)
  | wrP1Sweep data => exact holds_of_next hst (h.setP1 (h.p1.writeSweep data) rfl)
  | wrP1Tlo data => exact holds_of_next hst (h.setP1 (h.p1.writeTlo _ data) rfl)
  | wrP1Thi data =>
    refine holds_of_map hst fun _ hq => ?_
    obtain ⟨hmatches, hconvention⟩ := h.p1.writeThi hq
    exact h.setP1 hmatches hconvention
  | wrP2Ctrl data => exact holds_of_next hst (h.setP2 (h.p2.writeCtrl data) rfl)
  | wrP2Sweep data => exact holds_of_next hst (h.setP2 (h.p2.writeSweep data) rfl)
  | wrP2Tlo data => exact holds_of_next hst (h.setP2 (h.p2.writeTlo _ data) rfl)
  | wrP2Thi data =>
    refine holds_of_map hst fun _ hq => ?_
    obtain ⟨hmatches, hconvention⟩ := h.p2.writeThi hq
    exact h.setP2 hmatches hconvention
  | wrTriLinear data => exact holds_of_next hst (h.setTri (h.tri.writeLinear data))
  | wrTriUnused data => exact holds_of_next hst (h.setTri (h.tri.writeUnused data))
  | wrTriTlo data => exact holds_of_next hst (h.setTri (h.tri.writeTlo data))
  | wrTriThi data => exact holds_of_map hst (fun _ hu => h.setTri (h.tri.writeThi hu))
  | wrNoiseCtrl data => exact holds_of_next hst (h.setNoise (h.noise.writeCtrl data))
  | wrNoiseUnused data => exact holds_of_next hst (h.setNoise (h.noise.writeUnused data))
  | wrNoisePeriod data => exact holds_of_map hst (fun _ hm => h.setNoise (h.noise.writePeriod hm))
  | wrNoiseLen data => exact holds_of_map hst (fun _ hm => h.setNoise (h.noise.writeLen hm))
  | wrDmcCtrl data => exact holds_of_map hst (fun _ he => h.setDmc (h.dmc.writeCtrl he))
  | wrDmcLevel data => exact holds_of_next hst (h.setDmc (h.dmc.writeLevel data))
  | wrDmcAddr data => exact holds_of_next hst (h.setDmc (h.dmc.writeAddr data))
  | wrDmcLen data => exact holds_of_next hst (h.setDmc (h.dmc.writeLen data))
  | wrStatus data => exact holds_of_next hst (h.writeEnables data)
  | wrFrame data => exact holds_of_next hst (h.setMode _)
  | wrUnmapped14 data | wrUnmapped16 data | wrUnmapped18 data | wrUnmapped19 data | wrUnmapped1A data
  | wrUnmapped1B data | wrUnmapped1C data | wrUnmapped1D data | wrUnmapped1E data | wrUnmapped1F data =>
    exact holds_of_next hst h
  | rdStatus => exact holds_of_next hst { h with }
  | rdOpen00 | rdOpen01 | rdOpen02 | rdOpen03 | rdOpen04 | rdOpen05 | rdOpen06 | rdOpen07 | rdOpen08 | rdOpen09
  | rdOpen0A | rdOpen0B | rdOpen0C | rdOpen0D | rdOpen0E | rdOpen0F | rdOpen10 | rdOpen11 | rdOpen12 | rdOpen13
  | rdOpen14 | rdOpen16 | rdOpen17 | rdOpen18 | rdOpen19 | rdOpen1A | rdOpen1B | rdOpen1C | rdOpen1D | rdOpen1E
  | rdOpen1F => exact readOpenBus_matchesShadow h hst
  | adv n => exact h.of_frame (execAdv_frame hst)

/-- Settles O56: each write keeps its own channel's agreement, and `ADVANCE` keeps it by its frame. -/
theorem everyStepKeepsFieldsMatchingShadowBytes : Obligations.EveryStepKeepsFieldsMatchingShadowBytes := by
  intro s t h hst
  rcases step_cases hst with ⟨-, rfl⟩ | ⟨_, _, i, -, -, he⟩
  · exact h
  · exact exec_matchesShadow h.dropPending he

end Sys2Proof.Machine
end

section
/-! PROOFS. The newly reset block and what is seen of it (rules R44, R45, R380). -/

namespace Sys2Proof.Machine

theorem PulseChannel.amp_of_muted {p : PulseChannel} (h : p.muted = true) (c : Config) : p.amp c = .ok 0 := if_pos h

theorem NoiseChannel.amp_of_gate_closed {n : NoiseChannel} (h : n.len.gate n.halt = false) : n.amp = 0 :=
  if_pos (by rw [h]; rfl)

theorem PulseChannel.construct_default_cur (k : SweepConvention) :
    (PulseChannel.construct Config.default k).timer.cur = 2 := by
  cases k <;> decide +kernel

/-- The sweep mutes a period below 16 (rule R172). -/
theorem PulseChannel.construct_default_muted (k : SweepConvention) :
    (PulseChannel.construct Config.default k).muted = true := by
  rw [PulseChannel.muted, Sweep.mute, PulseChannel.construct_default_cur]
  rfl

/-- Settles O59: the record is evaluated, and each amplitude is that of a muted, closed or resting unit. -/
theorem resetStateAsObserved : Obligations.ResetStateAsObserved := by
  refine ⟨?record, rfl, rfl, rfl, ?amp1, ?amp2, rfl, ?noise, rfl⟩
  case record => decide +kernel
  case amp1 => exact PulseChannel.amp_of_muted (PulseChannel.construct_default_muted .ones) _
  case amp2 => exact PulseChannel.amp_of_muted (PulseChannel.construct_default_muted .twos) _
  case noise => exact NoiseChannel.amp_of_gate_closed rfl

end Sys2Proof.Machine
end

section
/-! PROOFS. The DMC's output unit plays a byte (rules R265, R266): the bits played so far in closed form, the ticks
within a byte, and the tick that ends it. -/

namespace Sys2Proof.Machine

/-- The channel after `k` bits of the shift register, bit 0 first; a silent unit plays none (rule R265). -/
def DmcChannel.played (d : DmcChannel) (k : Nat) : DmcChannel :=
  if d.silence then d
  else { d with
    level := (List.range k).foldl (fun level i => deltaLevel (d.shiftReg.getLsbD i) level) d.level
    shiftReg := d.shiftReg >>> k }

theorem DmcChannel.played_of_silence {d : DmcChannel} (h : d.silence = true) (k : Nat) : d.played k = d := if_pos h

theorem DmcChannel.played_of_sounding {d : DmcChannel} (h : d.silence = false) (k : Nat) :
    d.played k = { d with
      level := (List.range k).foldl (fun level i => deltaLevel (d.shiftReg.getLsbD i) level) d.level
      shiftReg := d.shiftReg >>> k } :=
  if_neg (by simp [h])

theorem DmcChannel.played_zero (d : DmcChannel) : d.played 0 = d := by
  cases h : d.silence with
  | true => exact DmcChannel.played_of_silence h 0
  | false => simp [DmcChannel.played_of_sounding h]

/-- Playing bits moves the level and the shift register and nothing else. -/
theorem DmcChannel.played_eq (d : DmcChannel) (k : Nat) :
    d.played k = { d with level := (d.played k).level, shiftReg := (d.played k).shiftReg } := by
  unfold DmcChannel.played
  split <;> rfl

/-- Bit `k` of the byte is bit 0 of the register that `k` bits have left. -/
theorem DmcChannel.bitStep_played (d : DmcChannel) (k : Nat) : (d.played k).bitStep = d.played (k + 1) := by
  cases h : d.silence with
  | true => simp [DmcChannel.played_of_silence h, DmcChannel.bitStep, h]
  | false =>
    simp [DmcChannel.played_of_sounding h, DmcChannel.bitStep, h, List.range_succ, BitVec.shiftRight_add]

/-- The count of bits has no part in a bit step. -/
theorem DmcChannel.bitStep_withBitsLeft (d : DmcChannel) (n : Nat) :
    ({ d with bitsLeft := n } : DmcChannel).bitStep = { d.bitStep with bitsLeft := n } := by
  unfold DmcChannel.bitStep
  split <;> rfl

theorem DmcChannel.byteBoundary_of_more {d : DmcChannel} (h : 1 < d.bitsLeft) :
    d.byteBoundary = { d with bitsLeft := d.bitsLeft - 1 } :=
  if_neg (by simp; omega)

/-- The last bit of a byte loads the buffered byte, or makes the unit silent if there is none. -/
theorem DmcChannel.byteBoundary_of_last {d : DmcChannel} (h : d.bitsLeft ≤ 1) :
    d.byteBoundary = { d with
      bitsLeft := 8, buffer := none, silence := d.buffer.isNone, shiftReg := d.buffer.getD d.shiftReg } := by
  cases hb : d.buffer <;> simp [DmcChannel.byteBoundary, Nat.sub_eq_zero_of_le h, hb]

/-- The output unit does not touch the memory unit's cursor. -/
theorem DmcChannel.outputUnit_curAddress (d : DmcChannel) : d.outputUnit.curAddress = d.curAddress := by
  have hbit : d.bitStep.curAddress = d.curAddress := by
    unfold DmcChannel.bitStep
    split <;> rfl
  rw [← hbit, DmcChannel.outputUnit]
  rcases Nat.lt_or_ge 1 d.bitStep.bitsLeft with h | h
  · rw [DmcChannel.byteBoundary_of_more h]
  · rw [DmcChannel.byteBoundary_of_last h]

/-- Ticks within a byte play its bits and count them down. -/
theorem DmcChannel.outputUnit_iterate {d : DmcChannel} {k : Nat} (h : k < d.bitsLeft) :
    DmcChannel.outputUnit^[k] d = { d.played k with bitsLeft := d.bitsLeft - k } := by
  induction k with
  | zero => rw [DmcChannel.played_zero]; rfl
  | succ k ih =>
    rw [Function.iterate_succ_apply', ih (by omega), DmcChannel.outputUnit, DmcChannel.bitStep_withBitsLeft,
      DmcChannel.bitStep_played, DmcChannel.byteBoundary_of_more (by simp; omega)]
    rfl

/-- The tick that ends a byte plays its last bit and loads the next byte. -/
theorem DmcChannel.outputUnit_iterate_last {d : DmcChannel} {k : Nat} (h : d.bitsLeft = k + 1) :
    DmcChannel.outputUnit^[k + 1] d = { d with
      level := (d.played (k + 1)).level
      bitsLeft := 8
      buffer := none
      silence := d.buffer.isNone
      shiftReg := d.buffer.getD (d.played (k + 1)).shiftReg } := by
  rw [Function.iterate_succ_apply', DmcChannel.outputUnit_iterate (by omega), DmcChannel.outputUnit,
    DmcChannel.bitStep_withBitsLeft, DmcChannel.bitStep_played, DmcChannel.byteBoundary_of_last (by simp; omega),
    DmcChannel.played_eq]

theorem DmcChannel.played_level (d : DmcChannel) (k : Nat) :
    (d.played k).level = if d.silence then d.level
      else (List.range k).foldl (fun level i => deltaLevel (d.shiftReg.getLsbD i) level) d.level := by
  unfold DmcChannel.played
  split <;> rfl

/-- Settles O47: seven ticks within the byte and the one that ends it. -/
theorem dmcPlaysAByteLeastBitFirst : Obligations.DmcPlaysAByteLeastBitFirst := by
  intro d h8 d' delta
  have hend : d' = _ := DmcChannel.outputUnit_iterate_last h8
  refine ⟨?level, fun k hk => ?within, ?_⟩
  case level =>
    rw [hend]
    exact d.played_level 8
  case within =>
    rw [DmcChannel.outputUnit_iterate (by omega), DmcChannel.played_eq, h8]
    exact ⟨rfl, rfl, rfl⟩
  rw [hend]
  exact ⟨rfl, rfl, rfl, fun b hb => by rw [hb]; rfl, rfl, rfl, rfl⟩

end Sys2Proof.Machine
end

section
/-! PROOFS. The DMC's cursor and its bus reads stay in the upper half of the bus space (rule R64): first the DMC's two
addresses, then the DMC with its bus through a tick, then the state through every operation. -/

namespace Sys2Proof.Machine

/-- Past 0xFFFF the cursor goes on at 0x8000, the lowest address of the upper half (rule R263). -/
theorem nextAddress_inUpperHalf {a : Addr} (h : InUpperHalf a) : InUpperHalf (nextAddress a) := by
  unfold nextAddress
  split
  · exact Nat.le_refl 0x8000
  · unfold InUpperHalf at *
    bv_omega

/-- A fetch leaves the cursor on the next address, or on the sample's start at the end of a loop (rules R263, R264). -/
theorem DmcChannel.takeByte_curAddress (d : DmcChannel) (b : Byte) :
    (d.takeByte b).curAddress = nextAddress d.curAddress ∨ (d.takeByte b).curAddress = d.sampleAddress := by
  simp only [DmcChannel.takeByte, DmcChannel.endOfSample, DmcChannel.restart, DmcChannel.raiseIrq]
  split
  · split
    · exact .inr rfl
    · split <;> exact .inl rfl
  · exact .inl rfl

/-- Time does not move the start of the sample: it is one of the still fields. -/
theorem DmcChannel.sampleAddress_of_still_eq {d e : DmcChannel} (h : e.still = d.still) :
    e.sampleAddress = d.sampleAddress := by
  show e.still.sampleAddress = d.still.sampleAddress
  rw [h]

/-! ### The addresses of the DMC -/

/-- The start of the sample and the cursor lie in the upper half. -/
structure DmcChannel.AddressesInUpperHalf (d : DmcChannel) : Prop where
  sampleAddress : InUpperHalf d.sampleAddress
  curAddress : InUpperHalf d.curAddress

namespace DmcChannel.AddressesInUpperHalf

variable {d : DmcChannel}

theorem takeByte (h : d.AddressesInUpperHalf) (b : Byte) : (d.takeByte b).AddressesInUpperHalf := by
  have hsample := DmcChannel.sampleAddress_of_still_eq (d.takeByte_still b)
  rcases d.takeByte_curAddress b with hcur | hcur
  · exact ⟨hsample ▸ h.sampleAddress, hcur ▸ nextAddress_inUpperHalf h.curAddress⟩
  · exact ⟨hsample ▸ h.sampleAddress, hcur ▸ h.sampleAddress⟩

theorem outputUnit (h : d.AddressesInUpperHalf) : d.outputUnit.AddressesInUpperHalf :=
  have hsample := DmcChannel.sampleAddress_of_still_eq d.outputUnit_still
  ⟨hsample ▸ h.sampleAddress, d.outputUnit_curAddress ▸ h.curAddress⟩

theorem writeCtrl (h : d.AddressesInUpperHalf) {c : Config} {data : Byte} {e : DmcChannel}
    (he : d.writeCtrl c data = .ok e) : e.AddressesInUpperHalf := by
  obtain ⟨_, -, he⟩ := bind_eq_ok.mp he
  cases he
  split <;> exact { h with }

theorem writeLevel (h : d.AddressesInUpperHalf) (data : Byte) : (d.writeLevel data).AddressesInUpperHalf :=
  { h with }

/-- The one write that sets the start of the sample takes it from the configuration (rule R329). -/
theorem writeAddr (h : d.AddressesInUpperHalf) {c : Config} {data : Byte}
    (hc : InUpperHalf (c.sampleAddress data)) : (d.writeAddr c data).AddressesInUpperHalf :=
  { h with sampleAddress := hc }

theorem writeLen (h : d.AddressesInUpperHalf) (c : Config) (data : Byte) :
    (d.writeLen c data).AddressesInUpperHalf :=
  { h with }

/-- Enabling an ended sample moves the cursor to its start (rule R268). -/
theorem setEnabled (h : d.AddressesInUpperHalf) (e : Bool) : (d.setEnabled e).AddressesInUpperHalf := by
  unfold DmcChannel.setEnabled
  split
  · split
    · exact ⟨h.sampleAddress, h.sampleAddress⟩
    · exact h
  · exact { h with }

end DmcChannel.AddressesInUpperHalf

/-! ### The DMC with the bus it reads -/

/-- The DMC's addresses and every address the bus has logged lie in the upper half. -/
def ReadsInUpperHalf (d : DmcChannel) (bus : Bus) : Prop := d.AddressesInUpperHalf ∧ ∀ a ∈ bus.log, InUpperHalf a

/-- A fetch logs the cursor, which is in the upper half, before it moves on. -/
theorem ReadsInUpperHalf.memoryUnit {d : DmcChannel} {bus : Bus} (h : ReadsInUpperHalf d bus) :
    ReadsInUpperHalf (d.memoryUnit bus).1 (d.memoryUnit bus).2 := by
  obtain ⟨hd, hlog⟩ := h
  cases hf : d.fetches with
  | false =>
    rw [DmcChannel.memoryUnit_of_not_fetches hf]
    exact ⟨hd, hlog⟩
  | true =>
    obtain ⟨-, -, hlogged⟩ := Bus.read_spec bus d.curAddress
    rw [DmcChannel.memoryUnit_of_fetches hf]
    refine ⟨hd.takeByte _, fun a ha => ?_⟩
    rcases List.mem_append.mp (hlogged ▸ ha) with ha | ha
    · exact hlog a ha
    · exact List.mem_singleton.mp ha ▸ hd.curAddress

theorem ReadsInUpperHalf.tick {d : DmcChannel} {bus : Bus} (h : ReadsInUpperHalf d bus) :
    ReadsInUpperHalf (d.tick bus).1 (d.tick bus).2 := by
  obtain ⟨hd, hlog⟩ := h.memoryUnit
  exact ⟨hd.outputUnit, hlog⟩

theorem ReadsInUpperHalf.sampleWork {d : DmcChannel} {bus : Bus} (h : ReadsInUpperHalf d bus) (c : Config) :
    ReadsInUpperHalf (d.sampleWork c bus).1 (d.sampleWork c bus).2 :=
  DmcChannel.onTimer_keeps ReadsInUpperHalf (fun _ _ => ReadsInUpperHalf.tick) _ _ bus ⟨{ h.1 with }, h.2⟩

/-! ### Every operation -/

namespace State.DmcInUpperHalf

variable {s t : State}

theorem dmc (h : s.DmcInUpperHalf) : s.apu.dmc.AddressesInUpperHalf := ⟨h.sampleAddress, h.curAddress⟩

theorem setDmc (h : s.DmcInUpperHalf) {d : DmcChannel} (hd : d.AddressesInUpperHalf) : (s.setDmc d).DmcInUpperHalf :=
  { h with sampleAddress := hd.sampleAddress, curAddress := hd.curAddress }

theorem writeEnables (h : s.DmcInUpperHalf) (data : Byte) :
    ({ s with apu := s.apu.writeEnables data } : State).DmcInUpperHalf :=
  have hd := h.dmc.setEnabled (enableField data 4)
  { h with sampleAddress := hd.sampleAddress, curAddress := hd.curAddress }

theorem sampleStep (h : s.DmcInUpperHalf) (hst : sampleStep s = .ok t) : t.DmcInUpperHalf := by
  obtain ⟨_, _, _, -, -, rfl⟩ := sampleStep_cases hst
  obtain ⟨hd, hlog⟩ := ReadsInUpperHalf.sampleWork ⟨h.dmc, h.log⟩ s.cfg
  exact ⟨h.cfg, hd.sampleAddress, hd.curAddress, hlog⟩

theorem execAdv (h : s.DmcInUpperHalf) {n : Nat} (hst : execAdv n s = .next t) : t.DmcInUpperHalf :=
  sampleSteps_keeps State.DmcInUpperHalf (fun _ _ => State.DmcInUpperHalf.sampleStep) (execAdv_cases hst) { h with }

theorem readOpenBus (h : s.DmcInUpperHalf) {off : Offset} (hst : readOpenBus off s = .next t) : t.DmcInUpperHalf :=
  holds_of_next hst { h with }

/-- Only the DMC's writes, the enables and `ADVANCE` reach an address of the DMC or the bus. -/
theorem exec (h : s.DmcInUpperHalf) {i : Instr} (hst : exec i s = .next t) : t.DmcInUpperHalf := by
  cases i with
  | wrP1Ctrl data | wrP1Sweep data | wrP1Tlo data | wrP2Ctrl data | wrP2Sweep data | wrP2Tlo data
  | wrTriLinear data | wrTriUnused data | wrTriTlo data | wrNoiseCtrl data | wrNoiseUnused data | wrFrame data
  | rdStatus => exact holds_of_next hst { h with }
  | wrP1Thi data | wrP2Thi data | wrTriThi data | wrNoisePeriod data | wrNoiseLen data =>
    exact holds_of_map hst (fun _ _ => { h with })
  | wrDmcCtrl data => exact holds_of_map hst (fun _ he => h.setDmc (h.dmc.writeCtrl he))
  | wrDmcLevel data => exact holds_of_next hst (h.setDmc (h.dmc.writeLevel data))
  | wrDmcAddr data => exact holds_of_next hst (h.setDmc (h.dmc.writeAddr (h.cfg data)))
  | wrDmcLen data => exact holds_of_next hst (h.setDmc (h.dmc.writeLen _ data))
  | wrStatus data => exact holds_of_next hst (h.writeEnables data)
  | wrUnmapped14 data | wrUnmapped16 data | wrUnmapped18 data | wrUnmapped19 data | wrUnmapped1A data
  | wrUnmapped1B data | wrUnmapped1C data | wrUnmapped1D data | wrUnmapped1E data | wrUnmapped1F data =>
    exact holds_of_next hst h
  | rdOpen00 | rdOpen01 | rdOpen02 | rdOpen03 | rdOpen04 | rdOpen05 | rdOpen06 | rdOpen07 | rdOpen08 | rdOpen09
  | rdOpen0A | rdOpen0B | rdOpen0C | rdOpen0D | rdOpen0E | rdOpen0F | rdOpen10 | rdOpen11 | rdOpen12 | rdOpen13
  | rdOpen14 | rdOpen16 | rdOpen17 | rdOpen18 | rdOpen19 | rdOpen1A | rdOpen1B | rdOpen1C | rdOpen1D | rdOpen1E
  | rdOpen1F => exact h.readOpenBus hst
  | adv n => exact h.execAdv hst

end State.DmcInUpperHalf

/-- The default formula starts at 0xC000 and stays below 2^16 for every byte (rule R99). -/
theorem Config.default_sampleAddress_inUpperHalf (a : Byte) : InUpperHalf (Config.default.sampleAddress a) := by
  have hformula : Config.default.sampleAddress a = BitVec.ofNat 16 (0xC000 + 64 * a.toNat) := rfl
  have ha := a.isLt
  rw [InUpperHalf, hformula, BitVec.toNat_ofNat]
  omega

theorem State.reset_dmcInUpperHalf : State.reset.DmcInUpperHalf where
  cfg := Config.default_sampleAddress_inUpperHalf
  sampleAddress := Config.default_sampleAddress_inUpperHalf 0x00
  curAddress := Config.default_sampleAddress_inUpperHalf 0x00
  log := nofun

/-- Settles O57: only the configuration gives a new start, the cursor moves within the upper half or to the start, and
the bus logs the cursor alone. -/
theorem dmcReadsStayInTheUpperHalf : Obligations.DmcReadsStayInTheUpperHalf := by
  refine ⟨fun s t h hst => ?_, State.reset_dmcInUpperHalf⟩
  rcases step_cases hst with ⟨-, rfl⟩ | ⟨_, _, i, -, -, he⟩
  · exact h
  · exact State.DmcInUpperHalf.exec (s := s.dropPending) { h with } he

end Sys2Proof.Machine
end

section
/-! PROOFS. Reads, unmapped writes and the host's own stores: what each answers, and that it changes nothing else of the
block (rules R71, R331, R335, R336). -/

namespace Sys2Proof.Machine

/-- The data byte of an unmapped write is ignored (rule R335). -/
theorem writeUnmapped_eq (data : Byte) (s : State) : writeUnmapped data s = .next s := rfl

/-- Settles O19: each of the ten offsets has the one meaning of an unmapped write. -/
theorem unmappedWritesChangeNothing : Obligations.UnmappedWritesChangeNothing := by
  intro data s
  have h := writeUnmapped_eq data s
  exact ⟨h, h, h, h, h, h, h, h, h, h⟩

/-- The status byte by the weights of its bits: concatenation puts them from bit 4 down to bit 0 (rule R95). -/
theorem statusBits_eq_weights (b0 b1 b2 b3 b4 : Bool) :
    0#3 ++ BitVec.ofBool b4 ++ BitVec.ofBool b3 ++ BitVec.ofBool b2 ++ BitVec.ofBool b1 ++ BitVec.ofBool b0 =
      BitVec.ofNat 8 ((if b0 then 1 else 0) + 2 * (if b1 then 1 else 0) + 4 * (if b2 then 1 else 0) +
        8 * (if b3 then 1 else 0) + 16 * (if b4 then 1 else 0)) := by
  revert b0 b1 b2 b3 b4
  decide

/-- Settles O20: the five flags stand in the status byte by their weights. -/
theorem statusReadReturnsRemainingBits : Obligations.StatusReadReturnsRemainingBits := by
  intro s bit a
  exact congrArg (fun b => Host.Outcome.next (s.returnByte b)) (statusBits_eq_weights a.p1.len.hasRemaining
    a.p2.len.hasRemaining a.tri.len.hasRemaining a.noise.len.hasRemaining a.dmc.hasRemaining)

/-- An open-bus read draws one byte and returns it (rule R336). -/
theorem readOpenBus_returns (off : Offset) (s : State) :
    ∃ b : Byte, readOpenBus off s =
      .next { s with reads := s.reads ++ [b], openBusDraws := s.openBusDraws + 1 } :=
  ⟨Config.openBusRead s.openBusDraws off, rfl⟩

/-- Settles O21: each of the 31 offsets has the one meaning of an open-bus read. -/
theorem openBusReadsReturnAByteAndChangeNothing : Obligations.OpenBusReadsReturnAByteAndChangeNothing := by
  intro i s hi
  cases i with
  | rdOpen00 | rdOpen01 | rdOpen02 | rdOpen03 | rdOpen04 | rdOpen05 | rdOpen06 | rdOpen07 | rdOpen08 | rdOpen09
  | rdOpen0A | rdOpen0B | rdOpen0C | rdOpen0D | rdOpen0E | rdOpen0F | rdOpen10 | rdOpen11 | rdOpen12 | rdOpen13
  | rdOpen14 | rdOpen16 | rdOpen17 | rdOpen18 | rdOpen19 | rdOpen1A | rdOpen1B | rdOpen1C | rdOpen1D | rdOpen1E
  | rdOpen1F => exact readOpenBus_returns _ s
  | _ => simp at hi

/-- Settles O48: the bus answers from the memory, and a store lists its byte at its own address in canonical order. -/
theorem hostStoreIsSeenByTheDmc : Obligations.HostStoreIsSeenByTheDmc :=
  fun s a b => ⟨s.hostStore_byteAt_same a b, fun _ => s.hostStore_byteAt_other b, memWf_memWrite a b,
    s.hostStore_apu a b⟩

end Sys2Proof.Machine
end

section
/-! PROOFS. The transaction word: its fields by their weights, what the decoder answers, and that the encoder, the
decoder, the opcode table and the assembler agree (rules R80 to R82, R109 to R111). -/

namespace Sys2Proof

/-! ### The fields of a word by their weights (rule R80) -/

theorem kindField_toNat (w : BitVec 16) : (kindField w).toNat = w.toNat / 16384 := by
  rw [kindField, BitVec.extractLsb'_toNat, Nat.shiftRight_eq_div_pow]
  omega

theorem offField_toNat (w : BitVec 16) : (offField w).toNat = w.toNat / 256 % 32 := by
  rw [offField, BitVec.extractLsb'_toNat, Nat.shiftRight_eq_div_pow]

theorem dataField_toNat (w : BitVec 16) : (dataField w).toNat = w.toNat % 256 := by
  rw [dataField, BitVec.extractLsb'_toNat, Nat.shiftRight_zero]

theorem zField_eq_true (w : BitVec 16) : zField w = true ↔ w.toNat / 8192 % 2 = 1 := by
  rw [zField, BitVec.getLsbD, Nat.testBit_eq_decide_div_mod_eq, decide_eq_true_eq]

theorem packWord_toNat (kind : BitVec 2) (off : Offset) (data : Byte) :
    (packWord kind off data).toNat = kind.toNat * 16384 + off.toNat * 256 + data.toNat := by
  rw [packWord, BitVec.toNat_append, BitVec.toNat_append, BitVec.toNat_append,
    ← Nat.shiftLeft_add_eq_or_of_lt data.isLt, ← Nat.shiftLeft_add_eq_or_of_lt off.isLt,
    ← Nat.shiftLeft_add_eq_or_of_lt (0#1).isLt]
  simp only [Nat.shiftLeft_eq, BitVec.toNat_ofNat]
  omega

/-! ### Packing and the fields are inverse to each other -/

@[simp] theorem kindField_packWord (kind : BitVec 2) (off : Offset) (data : Byte) :
    kindField (packWord kind off data) = kind := by
  apply BitVec.eq_of_toNat_eq
  rw [kindField_toNat, packWord_toNat]
  omega

@[simp] theorem offField_packWord (kind : BitVec 2) (off : Offset) (data : Byte) :
    offField (packWord kind off data) = off := by
  apply BitVec.eq_of_toNat_eq
  rw [offField_toNat, packWord_toNat]
  omega

@[simp] theorem dataField_packWord (kind : BitVec 2) (off : Offset) (data : Byte) :
    dataField (packWord kind off data) = data := by
  apply BitVec.eq_of_toNat_eq
  rw [dataField_toNat, packWord_toNat]
  omega

@[simp] theorem zField_packWord (kind : BitVec 2) (off : Offset) (data : Byte) :
    zField (packWord kind off data) = false := by
  rw [← Bool.not_eq_true, zField_eq_true, packWord_toNat]
  omega

/-- A word with bit 13 clear is packed from its own fields. -/
theorem packWord_fields {w : BitVec 16} (h : zField w = false) :
    packWord (kindField w) (offField w) (dataField w) = w := by
  rw [← Bool.not_eq_true, zField_eq_true] at h
  apply BitVec.eq_of_toNat_eq
  rw [packWord_toNat, kindField_toNat, offField_toNat, dataField_toNat]
  omega

/-! ### What the decoder answers -/

theorem decode_of_bit13 {t : Transaction} (h : zField t.word = true) : decode t = .error .bit13Set :=
  if_pos h

section Kinds

variable {t : Transaction} (hz : zField t.word = false)
include hz

theorem decode_of_readKind (hk : kindField t.word = 0b00#2) : decode t =
    if dataField t.word = 0#8 then .ok (decodeRead (offField t.word)) else .error .readDataNonzero := by
  simp [decode, hz, hk]

theorem decode_of_writeKind (hk : kindField t.word = 0b01#2) :
    decode t = .ok (decodeWrite (offField t.word) (dataField t.word)) := by
  simp [decode, hz, hk]

theorem decode_of_advanceKind (hk : kindField t.word = 0b10#2) : decode t =
    if offField t.word = 0#5 ∧ dataField t.word = 0#8 then .ok (.adv t.operand)
    else .error .advanceFieldNonzero := by
  simp [decode, hz, hk]

theorem decode_of_reservedKind (hk : kindField t.word = 0b11#2) : decode t = .error .reservedKind := by
  simp [decode, hz, hk]

end Kinds

theorem decode_packRead (off : Offset) (n : Nat) : decode ⟨packWord 0b00#2 off 0#8, n⟩ = .ok (decodeRead off) := by
  simp [decode_of_readKind]

theorem decode_packWrite (off : Offset) (data : Byte) (n : Nat) :
    decode ⟨packWord 0b01#2 off data, n⟩ = .ok (decodeWrite off data) := by
  simp [decode_of_writeKind]

theorem decode_packAdvance (n : Nat) : decode ⟨packWord 0b10#2 0#5 0#8, n⟩ = .ok (.adv n) := by
  simp [decode_of_advanceKind]

/-- Every two-bit kind is one of the four of rule R80. -/
theorem kind_cases (k : BitVec 2) : k = 0b00#2 ∨ k = 0b01#2 ∨ k = 0b10#2 ∨ k = 0b11#2 := by
  revert k
  decide

/-- A transaction that decodes has a READ, a WRITE or the ADVANCE word, and spells that word's operation. -/
theorem decode_eq_ok {t : Transaction} {i : Instr} (h : decode t = .ok i) :
    (∃ off, t.word = packWord 0b00#2 off 0#8 ∧ i = decodeRead off) ∨
      (∃ off data, t.word = packWord 0b01#2 off data ∧ i = decodeWrite off data) ∨
      (t.word = packWord 0b10#2 0#5 0#8 ∧ i = .adv t.operand) := by
  cases hz : zField t.word with
  | true => cases (decode_of_bit13 hz).symm.trans h
  | false =>
    have hw := packWord_fields hz
    rcases kind_cases (kindField t.word) with hk | hk | hk | hk
    · rw [decode_of_readKind hz hk] at h
      split_ifs at h with hd
      rw [hk, hd] at hw
      exact .inl ⟨_, hw.symm, (Except.ok.inj h).symm⟩
    · rw [decode_of_writeKind hz hk] at h
      rw [hk] at hw
      exact .inr (.inl ⟨_, _, hw.symm, (Except.ok.inj h).symm⟩)
    · rw [decode_of_advanceKind hz hk] at h
      split_ifs at h with hf
      rw [hk, hf.1, hf.2] at hw
      exact .inr (.inr ⟨hw.symm, (Except.ok.inj h).symm⟩)
    · cases (decode_of_reservedKind hz hk).symm.trans h

/-- The decoder refuses exactly the four forms of rule R82. -/
theorem decode_eq_error_iff (t : Transaction) : (∃ why, decode t = .error why) ↔
    kindField t.word = 0b11#2 ∨ zField t.word = true ∨ (kindField t.word = 0b00#2 ∧ dataField t.word ≠ 0#8) ∨
      (kindField t.word = 0b10#2 ∧ ¬(offField t.word = 0#5 ∧ dataField t.word = 0#8)) := by
  cases hz : zField t.word with
  | true => simp [decode_of_bit13 hz]
  | false =>
    rcases kind_cases (kindField t.word) with hk | hk | hk | hk
    · rw [decode_of_readKind hz hk]
      split_ifs with hd <;> simp [hk, hd]
    · simp [decode_of_writeKind hz hk, hk]
    · rw [decode_of_advanceKind hz hk]
      split_ifs with hf <;> simp [hk, hf]
    · simp [decode_of_reservedKind hz hk, hk]

/-! ### Every operation is a row of its family -/

theorem encode_decodeRead (off : Offset) : encode (decodeRead off) = encodeRead off := by
  revert off
  decide

theorem encode_decodeWrite (off : Offset) (data : Byte) : encode (decodeWrite off data) = encodeWrite off data := by
  obtain ⟨off⟩ := off
  fin_cases off <;> rfl

theorem decodeRead_row (off : Offset) : (decodeRead off).row = ⟨packWord 0b00#2 off 0#8, 0xFFFF⟩ := by
  revert off
  decide

theorem decodeWrite_row (off : Offset) (data : Byte) :
    (decodeWrite off data).row = ⟨packWord 0b01#2 off 0#8, 0xFF00⟩ := by
  obtain ⟨off⟩ := off
  fin_cases off <;> rfl

theorem adv_row (n : Nat) : (Instr.adv n).row = ⟨packWord 0b10#2 0#5 0#8, 0xFFFF⟩ := rfl

/-- Settles O1: every constructor is the READ or WRITE of its own offset, or the ADVANCE, and packing keeps the
fields. -/
theorem decodeOfEncodeIsTheOperation : Obligations.DecodeOfEncodeIsTheOperation := by
  intro i _
  cases i with
  | adv n => exact decode_packAdvance n
  | rdStatus | rdOpen00 | rdOpen01 | rdOpen02 | rdOpen03 | rdOpen04 | rdOpen05 | rdOpen06 | rdOpen07 | rdOpen08
  | rdOpen09 | rdOpen0A | rdOpen0B | rdOpen0C | rdOpen0D | rdOpen0E | rdOpen0F | rdOpen10 | rdOpen11 | rdOpen12
  | rdOpen13 | rdOpen14 | rdOpen16 | rdOpen17 | rdOpen18 | rdOpen19 | rdOpen1A | rdOpen1B | rdOpen1C | rdOpen1D
  | rdOpen1E | rdOpen1F => exact decode_packRead _ 0
  | _ data => exact decode_packWrite _ data 0

/-- Settles O2: a word that decodes is packed from the fields its operation is encoded from; the ADVANCE word decodes to
the ADVANCE of the number beside it. -/
theorem encodeOfDecodeIsTheWord : Obligations.EncodeOfDecodeIsTheWord := by
  intro t i h
  have hword : (encode i).word = t.word := by
    rcases decode_eq_ok h with ⟨off, hw, rfl⟩ | ⟨off, data, hw, rfl⟩ | ⟨hw, rfl⟩
    · rw [encode_decodeRead, hw, encodeRead]
    · rw [encode_decodeWrite, hw, encodeWrite]
    · exact hw.symm
  refine ⟨hword, ?_⟩
  rintro n rfl
  obtain ⟨w, m⟩ := t
  have hadv : decode ⟨w, m⟩ = .ok (.adv m) := (show packWord 0b10#2 0#5 0#8 = w from hword) ▸ decode_packAdvance m
  exact Instr.adv.inj (Except.ok.inj (hadv.symm.trans h))

/-! ### One row for each word (rule R111) -/

/-- An exact row has one word, its pattern. -/
theorem exactRow_matches (p w : BitVec 16) : (OpcodeRow.mk p 0xFFFF).matches w = true ↔ w = p := by
  rw [OpcodeRow.matches, beq_iff_eq, show (0xFFFF : BitVec 16) = BitVec.allOnes 16 by decide, BitVec.and_allOnes]

/-- The mask of a WRITE row clears the data byte and keeps every other bit. -/
theorem and_writeMask (w : BitVec 16) : w &&& 0xFF00#16 = w >>> 8 <<< 8 := by
  ext i hi
  interval_cases i <;> simp

theorem and_writeMask_toNat (w : BitVec 16) : (w &&& 0xFF00#16).toNat = w.toNat / 256 * 256 := by
  rw [and_writeMask, BitVec.toNat_shiftLeft, BitVec.toNat_ushiftRight, Nat.shiftLeft_eq, Nat.shiftRight_eq_div_pow]
  omega

/-- A WRITE row has the words of its offset, with every data byte. -/
theorem writeRow_matches (off : Offset) (w : BitVec 16) :
    (OpcodeRow.mk (packWord 0b01#2 off 0#8) 0xFF00).matches w = true ↔ ∃ data, w = packWord 0b01#2 off data := by
  constructor
  · intro h
    have hmask : w &&& 0xFF00#16 = packWord 0b01#2 off 0#8 := beq_iff_eq.mp h
    rw [← BitVec.toNat_inj, and_writeMask_toNat, packWord_toNat, BitVec.toNat_ofNat 0 8] at hmask
    refine ⟨dataField w, BitVec.eq_of_toNat_eq ?_⟩
    rw [packWord_toNat, dataField_toNat]
    omega
  · rintro ⟨data, rfl⟩
    exact Laws.RowMatch.write_row off data

theorem row_matches_of_decode {w : BitVec 16} {n : Nat} {i : Instr} (h : decode ⟨w, n⟩ = .ok i) :
    i.row.matches w = true := by
  rcases decode_eq_ok h with ⟨off, hw, rfl⟩ | ⟨off, data, hw, rfl⟩ | ⟨hw, rfl⟩ <;> dsimp only at hw
  · rw [decodeRead_row, exactRow_matches, hw]
  · rw [decodeWrite_row, writeRow_matches]
    exact ⟨data, hw⟩
  · rw [adv_row, exactRow_matches, hw]

/-- A word in the row of an operation decodes to an operation of that row. -/
theorem decode_of_row_matches {j : Instr} {w : BitVec 16} (h : j.row.matches w = true) (n : Nat) :
    ∃ i, decode ⟨w, n⟩ = .ok i ∧ i.row = j.row := by
  rcases decode_eq_ok (decodeOfEncodeIsTheOperation j rfl) with ⟨off, -, rfl⟩ | ⟨off, data, -, rfl⟩ | ⟨-, hj⟩
  · rw [decodeRead_row, exactRow_matches] at h
    exact ⟨_, h ▸ decode_packRead off n, rfl⟩
  · rw [decodeWrite_row, writeRow_matches] at h
    obtain ⟨data', rfl⟩ := h
    exact ⟨_, decode_packWrite off data' n, by rw [decodeWrite_row, decodeWrite_row]⟩
  · rw [hj, adv_row, exactRow_matches] at h
    exact ⟨_, h ▸ decode_packAdvance n, by rw [hj, adv_row, adv_row]⟩

/-- The four refused forms of rule R82 as arithmetic on the word. -/
theorem decode_eq_error_iff_toNat (w : BitVec 16) (n : Nat) : (∃ why, decode ⟨w, n⟩ = .error why) ↔
    w.toNat / 16384 = 3 ∨ w.toNat / 8192 % 2 = 1 ∨ (w.toNat / 16384 = 0 ∧ w.toNat % 256 ≠ 0) ∨
      (w.toNat / 16384 = 2 ∧ w.toNat % 8192 ≠ 0) := by
  rw [decode_eq_error_iff]
  simp only [zField_eq_true, ← BitVec.toNat_inj, ne_eq, kindField_toNat, offField_toNat, dataField_toNat,
    BitVec.toNat_ofNat]
  omega

theorem step_of_decode_error {s : Machine.State} {t : Transaction} {rest : List Transaction} {why : InvalidWord}
    (h : s.pending = t :: rest) (hd : decode t = .error why) : Machine.step s = .refused (.invalidWord why) := by
  rw [Machine.step, h]
  simp only [hd]

/-- Settles O3: the refusals by the fields' weights, and the rows by the words in them. -/
theorem invalidWordsRefusedOthersHaveOneRow : Obligations.InvalidWordsRefusedOthersHaveOneRow := by
  intro w n
  refine ⟨decode_eq_error_iff_toNat w n, fun _ _ _ hp hd => step_of_decode_error hp hd,
    fun i hi => ⟨row_matches_of_decode hi, fun j hj => ?_⟩⟩
  obtain ⟨k, hk, hrow⟩ := decode_of_row_matches hj n
  rw [← hrow, Except.ok.inj (hk.symm.trans hi)]

/-- Settles O4: eleven words packed from their fields, and one word of each refused form. -/
theorem wordsOfTheSpecDecodeAsWritten : Obligations.WordsOfTheSpecDecodeAsWritten :=
  ⟨decode_packWrite 0x00 0xBF 0, decode_packWrite 0x03 0x08 0, decode_packWrite 0x0B 0x18 0,
    decode_packWrite 0x0E 0x8F 0, decode_packWrite 0x13 0x00 0, decode_packWrite 0x15 0x1F 0,
    decode_packWrite 0x17 0x80 0, decode_packWrite 0x1F 0xFF 0, decode_packRead 0x15 0, decode_packRead 0x00 0,
    decode_packAdvance 400, rfl, rfl, rfl, rfl⟩

/-! ### The assembler (rules R109, R110) -/

/-- A WRITE word as the assembler computes it. -/
theorem ofNat_writeWord (off : Offset) (data : Byte) :
    BitVec.ofNat 16 (0x4000 + off.toNat * 256 + data.toNat) = packWord 0b01#2 off data := by
  apply BitVec.eq_of_toNat_eq
  rw [packWord_toNat, BitVec.toNat_ofNat, BitVec.toNat_ofNat]
  omega

theorem ofNat_readWord (off : Offset) : BitVec.ofNat 16 (off.toNat * 256) = packWord 0b00#2 off 0#8 := by
  apply BitVec.eq_of_toNat_eq
  rw [packWord_toNat, BitVec.toNat_ofNat, BitVec.toNat_ofNat, BitVec.toNat_ofNat]
  omega

theorem ofNat_writeWord_of_lt {off data : Nat} (ho : off < 32) (hd : data < 256) :
    BitVec.ofNat 16 (0x4000 + off * 256 + data) = packWord 0b01#2 (BitVec.ofNat 5 off) (BitVec.ofNat 8 data) := by
  rw [← ofNat_writeWord, BitVec.toNat_ofNat, BitVec.toNat_ofNat, Nat.mod_eq_of_lt ho, Nat.mod_eq_of_lt hd]

theorem AsmLine.assemble_of_ill_formed {a : AsmLine} (h : a.wellFormed = false) : a.assemble = none := by
  rw [AsmLine.assemble.eq_def, if_neg (by simp [h])]

theorem AsmLine.assemble_rd (off : Offset) : (AsmLine.rd off.toNat).assemble = some [encodeRead off] := by
  have hw : (AsmLine.rd off.toNat).wellFormed = true := decide_eq_true off.isLt
  rw [AsmLine.assemble, if_pos hw, ofNat_readWord, encodeRead]

theorem AsmLine.assemble_wr (off : Offset) (data : Byte) :
    (AsmLine.wr off.toNat data.toNat).assemble = some [encodeWrite off data] := by
  have hw : (AsmLine.wr off.toNat data.toNat).wellFormed = true := by
    simp [AsmLine.wellFormed, off.isLt, data.isLt]
  rw [AsmLine.assemble, if_pos hw, ofNat_writeWord, encodeWrite]

/-- The low byte of the period goes to the channel's third register, its high bits and the length index to the
fourth. -/
theorem AsmLine.assemble_tone {base t length : Nat} (hb : base = 0x00 ∨ base = 0x04 ∨ base = 0x08) (ht : t < 2048)
    (hl : length < 32) : (AsmLine.tone base t length).assemble =
      some [encodeWrite (BitVec.ofNat 5 (base + 2)) (BitVec.ofNat 8 (t % 256)),
        encodeWrite (BitVec.ofNat 5 (base + 3)) (BitVec.ofNat 8 (length * 8 + t / 256))] := by
  have hw : (AsmLine.tone base t length).wellFormed = true := by
    simp [AsmLine.wellFormed, or_assoc, hb, ht, hl]
  rw [AsmLine.assemble, if_pos hw, ofNat_writeWord_of_lt (by omega) (by omega),
    ofNat_writeWord_of_lt (by omega) (by omega), encodeWrite, encodeWrite]

/-- Settles O6: the operands of a well-formed line fit their fields, so its numbers are the encoder's words. -/
theorem assemblyLinesStandForTheirWords : Obligations.AssemblyLinesStandForTheirWords :=
  ⟨AsmLine.assemble_rd, AsmLine.assemble_wr, fun _ => rfl, rfl, fun _ _ _ => AsmLine.assemble_tone,
    fun _ => AsmLine.assemble_of_ill_formed⟩

end Sys2Proof
end

section
/-! PROOFS. The register writes: what each does to its unit, with the operand fields by their weights, and with it the
whole next state of the operation (rules R311 to R334). -/

namespace Sys2Proof.Machine

/-! ### From a unit to the whole state -/

/-- Two descriptions of a unit give the same next state. -/
theorem next_congr {α : Type} (set : α → State) {u v : α} (h : u = v) :
    (Host.Outcome.next (set u) : Host.Outcome State Fault Refusal) = .next (set v) :=
  congrArg _ (congrArg set h)

/-- A write that answers the unit `v` completes with it. -/
theorem toOutcome_map_of_ok {α : Type} (set : α → State) {r : Except Fault α} {v : α} (h : r = .ok v) :
    toOutcome (r.map set) = .next (set v) :=
  toOutcome_eq_next.mpr (map_eq_ok.mpr ⟨v, h, rfl⟩)

/-! ### Table entries that a write reads (rule R11 gives every table its size) -/

/-- Every length index has an entry (rule R97). -/
theorem lengthTable_entry {c : Config} (hc : c.WellFormed) (data : Byte) :
    ∃ v, c.lengthTable[data.toNat / 8]? = some v ∧
      tableGet .lengthTable c.lengthTable (lengthIndexField data) = .ok v := by
  obtain ⟨v, hget, -⟩ := tableGet_lengthTable hc data
  exact ⟨v, lengthIndexField_eq data ▸ tableGet_eq_ok.mp hget, hget⟩

/-- Every period index has an entry in a table of 16 (rules R83, R91). -/
theorem periodTable_entry (name : TableName) {table : List Nat} (h : table.length = 16) (data : Byte) :
    ∃ p, table[data.toNat % 16]? = some p ∧ tableGet name table (periodIndexField data) = .ok p := by
  obtain ⟨p, hget⟩ := tableGet_periodIndex name h data
  exact ⟨p, periodIndexField_eq data ▸ tableGet_eq_ok.mp hget, hget⟩

/-! ### Pulse channels -/

theorem PulseChannel.writeCtrl_eq (p : PulseChannel) (data : Byte) : p.writeCtrl data = { p with
    sh := { p.sh with sh0 := data }
    duty := data.toNat / 64
    halt := data.toNat / 32 % 2 == 1
    env := { p.env with
      loop := data.toNat / 32 % 2 == 1, constant := data.toNat / 16 % 2 == 1, param := data.toNat % 16 } } := by
  rw [PulseChannel.writeCtrl, dutyField_eq, haltLoopField_eq, constantField_eq, paramField_eq, Envelope.configure]

/-- Settles O7: both channels take the same write. -/
theorem pulseControlWriteSetsDutyHaltAndEnvelope : Obligations.PulseControlWriteSetsDutyHaltAndEnvelope := fun data s =>
  ⟨next_congr s.setP1 (s.apu.p1.writeCtrl_eq data),
    next_congr s.setP2 (s.apu.p2.writeCtrl_eq data)⟩

theorem PulseChannel.writeSweep_eq (p : PulseChannel) (data : Byte) : p.writeSweep data = { p with
    sh := { p.sh with sh1 := data }
    sweep := { p.sweep with
      enabled := data.toNat / 128 == 1, dividerPeriod := data.toNat / 16 % 8, negate := data.toNat / 8 % 2 == 1
      shift := data.toNat % 8, reload := true } } := by
  rw [PulseChannel.writeSweep, sweepEnabledField_eq, sweepPeriodField_eq, sweepNegateField_eq, sweepShiftField_eq,
    Sweep.configure]

/-- Settles O8: both channels take the same write. -/
theorem pulseSweepWriteConfiguresAndArmsReload : Obligations.PulseSweepWriteConfiguresAndArmsReload := fun data s =>
  ⟨next_congr s.setP1 (s.apu.p1.writeSweep_eq data),
    next_congr s.setP2 (s.apu.p2.writeSweep_eq data)⟩

theorem PulseChannel.writeTlo_eq (c : Config) (p : PulseChannel) (data : Byte) : p.writeTlo c data = { p with
    sh := { p.sh with sh2 := data }
    timer := { p.timer with
      period := c.clampP ((c.pulsePeriod.apply (p.sh.sh3.toNat % 8 * 256 + data.toNat) : Nat) : Q) } } := by
  rw [PulseChannel.writeTlo, PulseChannel.loadPeriod, periodValue_eq, Timer.setPeriod]

/-- Settles O9: both channels take the same write. -/
theorem pulseTimerLowWriteSetsPeriod : Obligations.PulseTimerLowWriteSetsPeriod := fun data s =>
  ⟨next_congr s.setP1 (s.apu.p1.writeTlo_eq s.cfg data),
    next_congr s.setP2 (s.apu.p2.writeTlo_eq s.cfg data)⟩

/-- A timer-high write whose length index has the entry `v`. -/
theorem PulseChannel.writeThi_eq {c : Config} {data : Byte} {v : Nat}
    (h : tableGet .lengthTable c.lengthTable (lengthIndexField data) = .ok v) (p : PulseChannel) :
    p.writeThi c data = .ok { p with
      sh := { p.sh with sh3 := data }
      timer := { p.timer with
        period := c.clampP ((c.pulsePeriod.apply (data.toNat % 8 * 256 + p.sh.sh2.toNat) : Nat) : Q) }
      len := if p.len.enabled then { p.len with configuredLength := v, remaining := v } else p.len
      env := { p.env with start := true }
      step := if c.pulsePhaseResetOnHi then 0 else p.step } := by
  rw [PulseChannel.writeThi, h, PulseChannel.loadPeriod, periodValue_eq]
  rfl

/-- Settles O10: the length index has an entry, and both channels take the same write. -/
theorem pulseTimerHighWriteLoadsLengthAndRestarts : Obligations.PulseTimerHighWriteLoadsLengthAndRestarts := by
  intro data s
  obtain ⟨v, hv, hget⟩ := lengthTable_entry s.cfg_wellFormed data
  exact ⟨v, hv, toOutcome_map_of_ok s.setP1 (PulseChannel.writeThi_eq hget s.apu.p1),
    toOutcome_map_of_ok s.setP2 (PulseChannel.writeThi_eq hget s.apu.p2)⟩

/-! ### Triangle channel -/

theorem TriangleChannel.writeLinear_eq (t : TriangleChannel) (data : Byte) : t.writeLinear data = { t with
    sh := { t.sh with sh0 := data }, control := data.toNat / 128 == 1, linLength := data.toNat % 128 } := by
  rw [TriangleChannel.writeLinear, controlField_eq, linLengthField_eq]

/-- Settles O11: the linear counter's two fields by weight; the unused register keeps its byte alone. -/
theorem triangleLinearAndUnusedWrites : Obligations.TriangleLinearAndUnusedWrites := fun data s =>
  ⟨next_congr s.setTri (s.apu.tri.writeLinear_eq data), rfl⟩

theorem TriangleChannel.writeTlo_eq (c : Config) (t : TriangleChannel) (data : Byte) : t.writeTlo c data = { t with
    sh := { t.sh with sh2 := data }
    timer := { t.timer with
      period := c.clampP ((c.trianglePeriod.apply (t.sh.sh3.toNat % 8 * 256 + data.toNat) : Nat) : Q) } } := by
  rw [TriangleChannel.writeTlo, TriangleChannel.loadPeriod, periodValue_eq, Timer.setPeriod]

/-- A timer-high write whose length index has the entry `v`. -/
theorem TriangleChannel.writeThi_eq {c : Config} {data : Byte} {v : Nat}
    (h : tableGet .lengthTable c.lengthTable (lengthIndexField data) = .ok v) (t : TriangleChannel) :
    t.writeThi c data = .ok { t with
      sh := { t.sh with sh3 := data }
      timer := { t.timer with
        period := c.clampP ((c.trianglePeriod.apply (data.toNat % 8 * 256 + t.sh.sh2.toNat) : Nat) : Q) }
      len := if t.len.enabled then { t.len with configuredLength := v, remaining := v } else t.len
      linReload := true } := by
  rw [TriangleChannel.writeThi, h, TriangleChannel.loadPeriod, periodValue_eq]
  rfl

/-- Settles O12: the period from both shadow bytes, and the entry of the length index. -/
theorem triangleTimerWritesSetPeriodLengthAndReload : Obligations.TriangleTimerWritesSetPeriodLengthAndReload := by
  intro data s
  obtain ⟨v, hv, hget⟩ := lengthTable_entry s.cfg_wellFormed data
  exact ⟨next_congr s.setTri (s.apu.tri.writeTlo_eq s.cfg data), v, hv,
    toOutcome_map_of_ok s.setTri (TriangleChannel.writeThi_eq hget s.apu.tri)⟩

/-! ### Noise channel -/

theorem NoiseChannel.writeCtrl_eq (n : NoiseChannel) (data : Byte) : n.writeCtrl data = { n with
    sh := { n.sh with sh0 := data }
    halt := data.toNat / 32 % 2 == 1
    env := { n.env with
      loop := data.toNat / 32 % 2 == 1, constant := data.toNat / 16 % 2 == 1, param := data.toNat % 16 } } := by
  rw [NoiseChannel.writeCtrl, haltLoopField_eq, constantField_eq, paramField_eq, Envelope.configure]

/-- Settles O13: halt and envelope by weight; the unused register keeps its byte alone. -/
theorem noiseEnvelopeAndUnusedWrites : Obligations.NoiseEnvelopeAndUnusedWrites := fun data s =>
  ⟨next_congr s.setNoise (s.apu.noise.writeCtrl_eq data), rfl⟩

/-- A period write whose index has the entry `p`. -/
theorem NoiseChannel.writePeriod_eq {c : Config} {data : Byte} {p : Nat}
    (h : tableGet .noisePeriodTable c.noisePeriodTable (periodIndexField data) = .ok p) (n : NoiseChannel) :
    n.writePeriod c data = .ok { n with
      sh := { n.sh with sh2 := data }
      mode := data.toNat / 128 == 1
      timer := { n.timer with period := c.clampP ((p : Nat) : Q) } } := by
  rw [NoiseChannel.writePeriod, h, noiseModeField_eq]
  rfl

/-- A length write whose index has the entry `v`. -/
theorem NoiseChannel.writeLen_eq {c : Config} {data : Byte} {v : Nat}
    (h : tableGet .lengthTable c.lengthTable (lengthIndexField data) = .ok v) (n : NoiseChannel) :
    n.writeLen c data = .ok { n with
      sh := { n.sh with sh3 := data }
      len := if n.len.enabled then { n.len with configuredLength := v, remaining := v } else n.len
      env := { n.env with start := true } } := by
  rw [NoiseChannel.writeLen, h]
  rfl

/-- Settles O14: both indices have an entry in their tables. -/
theorem noisePeriodAndLengthWrites : Obligations.NoisePeriodAndLengthWrites := by
  intro data s
  obtain ⟨p, hp, hperiod⟩ := periodTable_entry .noisePeriodTable s.cfg_wellFormed.noiseSize data
  obtain ⟨v, hv, hlength⟩ := lengthTable_entry s.cfg_wellFormed data
  exact ⟨⟨p, hp, toOutcome_map_of_ok s.setNoise (NoiseChannel.writePeriod_eq hperiod s.apu.noise)⟩,
    v, hv, toOutcome_map_of_ok s.setNoise (NoiseChannel.writeLen_eq hlength s.apu.noise)⟩

/-! ### DMC -/

/-- A control write whose rate index has the entry `p`: with bit 7 clear it is an acknowledge too (rule R270). -/
theorem DmcChannel.writeCtrl_eq {c : Config} {data : Byte} {p : Nat}
    (h : tableGet .dmcRateTable c.dmcRateTable (periodIndexField data) = .ok p) (d : DmcChannel) :
    d.writeCtrl c data = .ok { d with
      sh := { d.sh with sh0 := data }
      irqEnabled := data.toNat / 128 == 1
      loop := data.toNat / 64 % 2 == 1
      irqLatched := data.toNat / 128 == 1 && d.irqLatched
      timer := { d.timer with period := c.clampP ((p : Nat) : Q) } } := by
  rw [DmcChannel.writeCtrl, h, irqEnabledField_eq, loopField_eq]
  cases data.toNat / 128 == 1 <;> rfl

/-- Settles O15: the rate index has an entry. -/
theorem dmcControlWriteSetsRateLoopAndIrq : Obligations.DmcControlWriteSetsRateLoopAndIrq := by
  intro data s
  obtain ⟨p, hp, hrate⟩ := periodTable_entry .dmcRateTable s.cfg_wellFormed.dmcRateSize data
  exact ⟨p, hp, toOutcome_map_of_ok s.setDmc (DmcChannel.writeCtrl_eq hrate s.apu.dmc)⟩

theorem DmcChannel.writeLevel_eq (d : DmcChannel) (data : Byte) :
    d.writeLevel data = { d with sh := { d.sh with sh1 := data }, level := data.toNat % 128 } := by
  rw [DmcChannel.writeLevel, levelField_eq]

/-- Settles O16: the level by weight; the address and the length are the configuration's functions of the byte. -/
theorem dmcLevelAddressAndLengthWrites : Obligations.DmcLevelAddressAndLengthWrites := fun data s =>
  ⟨next_congr s.setDmc (s.apu.dmc.writeLevel_eq data), rfl, rfl⟩

/-! ### Control writes -/

theorem LengthCounter.setEnabled_eq (l : LengthCounter) (e : Bool) : l.setEnabled e =
    if e = l.enabled then l else { enabled := e, remaining := 0, configuredLength := 0 } := by
  by_cases h : e = l.enabled
  · rw [LengthCounter.setEnabled, if_neg (by simp [h]), if_pos h]
  · rw [LengthCounter.setEnabled, if_pos (by simp [h]), if_neg h]

theorem DmcChannel.setEnabled_eq (d : DmcChannel) (b : Nat) : d.setEnabled (b == 1) =
    if b = 1 then
      if d.bytesRemaining = 0 then { d with curAddress := d.sampleAddress, bytesRemaining := d.sampleLength } else d
    else { d with bytesRemaining := 0, irqLatched := false } := by
  by_cases h : b = 1
  · rw [DmcChannel.setEnabled, if_pos (beq_iff_eq.mpr h), if_pos h, DmcChannel.restart]
  · rw [DmcChannel.setEnabled, if_neg (mt beq_iff_eq.mp h), if_neg h, DmcChannel.clearIrq]

/-- Settles O17: each enable bit by its weight, and what its length counter or the DMC does with it. -/
theorem enableWriteResetsChangedCountersAndDmc : Obligations.EnableWriteResetsChangedCountersAndDmc := by
  intro data s d enabled a
  have hp1 : enableField data 0 = (d % 2 == 1) := by rw [enableField_eq, pow_zero, Nat.div_one]
  have hp2 : enableField data 1 = (d / 2 % 2 == 1) := enableField_eq data 1
  have htri : enableField data 2 = (d / 4 % 2 == 1) := enableField_eq data 2
  have hnoise : enableField data 3 = (d / 8 % 2 == 1) := enableField_eq data 3
  have hdmc : enableField data 4 = (d / 16 % 2 == 1) := enableField_eq data 4
  refine next_congr (fun a => { s with apu := a }) (?_ : a.writeEnables data = _)
  rw [Apu.writeEnables, hp1, hp2, htri, hnoise, hdmc, LengthCounter.setEnabled_eq, LengthCounter.setEnabled_eq,
    LengthCounter.setEnabled_eq, LengthCounter.setEnabled_eq, DmcChannel.setEnabled_eq]

/-- A mode write by its bit 7: every write is a switch, and the Timer keeps its position (rule R145). -/
theorem FrameSequencer.setMode_frameModeField (c : Config) (f : FrameSequencer) (data : Byte) :
    f.setMode c (frameModeField data) = {
      mode := if decide (128 ≤ data.toNat) then .fiveStep else .fourStep
      step := 0
      pending5 := decide (128 ≤ data.toNat)
      timer := { f.timer with
        period := c.clampP (c.frameTotalPeriod / (if decide (128 ≤ data.toNat) then 5 else 4)) } } := by
  rw [frameModeField_eq]
  by_cases h : 128 ≤ data.toNat
  · simp [h, FrameSequencer.setMode, Timer.setPeriod, FrameMode.steps]
  · simp [h, FrameSequencer.setMode, Timer.setPeriod, FrameMode.steps]

/-- Settles O18: bit 7 is the weight 128, and the position is not written. -/
theorem frameControlWriteSwitchesMode : Obligations.FrameControlWriteSwitchesMode := fun data s =>
  next_congr s.setFs (FrameSequencer.setMode_frameModeField s.cfg s.apu.fs data)

end Sys2Proof.Machine
end

section
/-! PROOFS. The frame sequencer's ticks in order (rules R140 to R146), and the amplitudes of the triangle, the noise
channel and the DMC (rules R225, R245, R273). -/

namespace Sys2Proof.Machine

/-- With a step in range the advance moves the Timer and goes through the mode's table, one entry for each tick. -/
theorem FrameSequencer.advance_of_lt {fs : FrameSequencer} (h : fs.step < fs.mode.steps) (hp : fs.pending5 = false)
    (c : Config) (n : Q) : ∃ ticks : List FrameTick,
      fs.advance c n = .ok ({ fs with
        timer := (fs.timer.advance c n).1, step := (fs.step + (fs.timer.advance c n).2) % fs.mode.steps }, ticks) ∧
      ticks.length = (fs.timer.advance c n).2 ∧
      ∀ i, i < (fs.timer.advance c n).2 → ticks[i]? = fs.mode.table[(fs.step + i) % fs.mode.steps]? := by
  obtain ⟨ticks, hticks, hlength, hentry⟩ := frameTicks_spec fs.mode (fs.timer.advance c n).2 fs.step h
  refine ⟨ticks, ?_, hlength, hentry⟩
  simp only [FrameSequencer.advance, h, hticks, hp, bind, Except.bind, if_true, Bool.false_eq_true, if_false]

/-- Settles O34: the mode's table is that of rule R105. -/
theorem frameSequencerReturnsEntriesInOrder : Obligations.FrameSequencerReturnsEntriesInOrder :=
  fun c _ cycles h hp => FrameSequencer.advance_of_lt h hp c cycles

/-- The triangle's ramp by the step (rule R104). -/
theorem triangleRamp_getElem? {i : Nat} (h : i < 32) :
    triangleRamp[i]? = some (if i < 16 then 15 - i else i - 16) := by
  revert i
  decide

theorem TriangleChannel.amp_eq {t : TriangleChannel} (h : t.step < 32) :
    t.amp = .ok (if t.step < 16 then 15 - t.step else t.step - 16) := by
  rw [TriangleChannel.amp, tableGet_eq_ok.mpr (triangleRamp_getElem? h)]
  exact congrArg Except.ok (Nat.mul_one _)

theorem NoiseChannel.noiseOut_eq (n : NoiseChannel) : n.noiseOut = if n.lfsr.getLsbD 0 then 1 else 0 := by
  rw [NoiseChannel.noiseOut]
  cases n.lfsr.getLsbD 0 <;> rfl

theorem NoiseChannel.amp_eq (n : NoiseChannel) :
    n.amp = if n.len.remaining = 0 ∧ n.halt = false then 0
      else (if n.lfsr.getLsbD 0 then 1 else 0) * (if n.env.constant then n.env.param else n.env.decayLevel) := by
  have hgate : (!n.len.gate n.halt) = true ↔ n.len.remaining = 0 ∧ n.halt = false := by simp [LengthCounter.gate]
  rw [NoiseChannel.amp, NoiseChannel.noiseOut_eq, Envelope.level]
  simp only [hgate]

theorem DmcChannel.amp_eq (d : DmcChannel) : d.amp = d.level := Nat.mul_one _

/-- Settles O45: the ramp at a step in range, the gate of the noise channel, and the inert envelope's level 1. -/
theorem triangleNoiseAndDmcAmplitudes : Obligations.TriangleNoiseAndDmcAmplitudes :=
  fun _ t n d ht hn hd => ⟨t.amp_eq ht.step, n.amp_eq, n.amp_le hn, d.amp_eq, d.amp_le hd⟩

end Sys2Proof.Machine
end

section
/-! PROOFS. The timer (rules R121 to R125): its advance is determined by where the position ends, so the closed form, the
source's loop and a split advance agree. -/

namespace Sys2Proof.Machine

/-- Settles O29: by the two policies. -/
theorem periodPolicyClampsOrStores : Obligations.PeriodPolicyClampsOrStores := by
  refine fun c t p => ⟨rfl, fun hclamp => ⟨?_, ?_⟩, fun hdisable => ⟨?_, ?_⟩⟩
  · rw [Timer.setPeriod_period, Config.clampP, hclamp, max_def_lt]
  · simp [Timer.inert, hclamp]
  · rw [Timer.setPeriod_period, Config.clampP, hdisable]
  · simp [Timer.inert, Config.clampP, hdisable]

/-! ### The ticks of an advance -/

/-- From the position's end on, a tick at once and then one for each whole period (rule R122). -/
theorem Timer.advance_ticks_of_le {c : Config} {t : Timer} {n : Q} (hi : t.inert c = false) (ht : 0 < t.period)
    (hn : t.position ≤ n) : ((t.advance c n).2 : Int) = ⌊(n - t.position) / t.period⌋ + 1 := by
  have hp : t.position - n ≤ 0 := sub_nonpos.mpr hn
  have hticks := Timer.ticksFor_eq ht hp
  rw [zero_sub, neg_sub] at hticks
  rw [Timer.advance_of_nonpos hi hp]
  exact_mod_cast hticks

/-- After a tick at most one period is left. -/
theorem Timer.advance_position_le {c : Config} {t : Timer} {n : Q} (hi : t.inert c = false) (ht : 0 < t.period)
    (hk : 0 < (t.advance c n).2) : (t.advance c n).1.position ≤ t.period := by
  by_cases hp : 0 < t.position - n
  · rw [Timer.advance_of_pos hi hp] at hk
    exact absurd hk (lt_irrefl 0)
  · have hp := not_lt.mp hp
    have hfloor := Int.floor_le ((0 - (t.position - n)) / t.period)
    rw [le_div_iff₀ ht] at hfloor
    rw [Timer.advance_of_nonpos hi hp]
    simp only [Timer.ticksFor_eq ht hp]
    linarith

/-- One tick less leaves the position at 0 or below, and so does any smaller number. -/
theorem Timer.advance_least {c : Config} {t : Timer} {n : Q} (hi : t.inert c = false) (ht : 0 < t.period) {j : Nat}
    (hj : j < (t.advance c n).2) : t.position - n + (j : Q) * t.period ≤ 0 := by
  have hle := Timer.advance_position_le hi ht (Nat.zero_lt_of_lt hj)
  rw [Timer.advance_position hi] at hle
  have hj' : (j : Q) + 1 ≤ ((t.advance c n).2 : Q) := by exact_mod_cast hj
  have := mul_le_mul_of_nonneg_right hj' ht.le
  linarith

/-- Settles O30: the closed form ends above 0, and after a tick at most at one period. -/
theorem timerAdvanceCountsTheLeastTicks : Obligations.TimerAdvanceCountsTheLeastTicks := fun c t n _ =>
  ⟨fun hi => Timer.advance_inert hi n, fun hi ht =>
    ⟨Timer.advance_period c t n, Timer.advance_position hi, Timer.advance_position_pos hi ht n,
      fun _ => Timer.advance_least hi ht, Timer.advance_position_le hi ht⟩⟩

/-- The least number of periods that brings the position above 0 is the number of turns of the source's loop. -/
theorem timerLoop_eq_of_least {period : Q} {k fuel : Nat} (hfuel : k ≤ fuel) {p : Q} (ticks : Nat)
    (hend : 0 < p + (k : Q) * period) (hleast : ∀ j : Nat, j < k → p + (j : Q) * period ≤ 0) :
    timerLoop period fuel p ticks = (p + (k : Q) * period, ticks + k) := by
  induction k generalizing fuel p ticks with
  | zero =>
    have hp : p + ((0 : Nat) : Q) * period = p := by simp
    rw [hp] at hend ⊢
    cases fuel with
    | zero => rfl
    | succ fuel => exact if_neg (not_le.mpr hend)
  | succ k ih =>
    obtain ⟨fuel, rfl⟩ := Nat.exists_eq_add_one_of_ne_zero (Nat.ne_zero_of_lt hfuel)
    have hturn (j : Nat) : p + period + (j : Q) * period = p + ((j + 1 : Nat) : Q) * period := by push_cast; ring
    have hp : p ≤ 0 := by simpa using hleast 0 (Nat.succ_pos k)
    rw [timerLoop, if_pos hp,
      ih (Nat.le_of_succ_le_succ hfuel) (ticks + 1) (hturn k ▸ hend)
        (fun j hj => hturn j ▸ hleast (j + 1) (Nat.succ_lt_succ hj)),
      hturn, Nat.add_right_comm, Nat.add_assoc]

/-- Settles O31: both count the least number of ticks. -/
theorem timerClosedFormIsTheSourceLoop : Obligations.TimerClosedFormIsTheSourceLoop := by
  intro c t n hi ht _ fuel hfuel
  have hpos := Timer.advance_position_pos hi ht n
  rw [Timer.advance_position hi] at hpos ⊢
  rw [timerLoop_eq_of_least hfuel 0 hpos (fun j => Timer.advance_least hi ht), Nat.zero_add]

/-! ### Splitting an advance -/

/-- Where the position ends determines the advance: `k` periods put it above 0, and at most at one period if `k` is
not 0. -/
theorem Timer.advance_unique {c : Config} {t : Timer} {n : Q} (hi : t.inert c = false) (ht : 0 < t.period) {q : Q}
    {k : Nat} (hq : q = t.position - n + (k : Q) * t.period) (hpos : 0 < q) (hle : 0 < k → q ≤ t.period) :
    t.advance c n = ({ t with position := q }, k) := by
  have hk : (t.advance c n).2 = k := by
    rcases lt_trichotomy (t.advance c n).2 k with hlt | heq | hgt
    · have hend := Timer.advance_position_pos hi ht n
      rw [Timer.advance_position hi] at hend
      have hle := hle (Nat.zero_lt_of_lt hlt)
      have hlt' : ((t.advance c n).2 : Q) + 1 ≤ (k : Q) := by exact_mod_cast hlt
      have := mul_le_mul_of_nonneg_right hlt' ht.le
      linarith
    · exact heq
    · exact absurd hpos (not_lt.mpr (hq ▸ Timer.advance_least hi ht hgt))
  refine Prod.ext ?_ hk
  rw [Timer.advance_fst, Timer.advance_position hi, hk, ← hq]

/-- An advance changes no period, so it makes no timer inert. -/
theorem Timer.advance_inert_eq (c : Config) (t : Timer) (n : Q) : (t.advance c n).1.inert c = t.inert c := by
  rw [Timer.inert, Timer.advance_period, Timer.inert]

/-- The chunking law of one timer; the first advance may be of any length (rule R125). -/
theorem Timer.advance_add {c : Config} {t : Timer} (h : t.inert c = true ∨ 0 < t.period) (a : Q) {b : Q} (hb : 0 ≤ b) :
    t.advance c (a + b) =
      (((t.advance c a).1.advance c b).1, (t.advance c a).2 + ((t.advance c a).1.advance c b).2) := by
  cases hi : t.inert c with
  | true => simp [Timer.advance_inert hi]
  | false =>
    have ht : 0 < t.period := h.resolve_left (by simp [hi])
    have hi' : (t.advance c a).1.inert c = false := (Timer.advance_inert_eq c t a).trans hi
    have ht' : 0 < (t.advance c a).1.period := (Timer.advance_period c t a).symm ▸ ht
    have hfirst := Timer.advance_position (n := a) hi
    have hsecond := Timer.advance_position (n := b) hi'
    rw [Timer.advance_period] at hsecond
    have hend : ((t.advance c a).1.advance c b).1.position = t.position - (a + b) +
        (((t.advance c a).2 + ((t.advance c a).1.advance c b).2 : Nat) : Q) * t.period := by
      rw [hsecond, hfirst]
      push_cast
      ring
    have hle (hk : 0 < (t.advance c a).2 + ((t.advance c a).1.advance c b).2) :
        ((t.advance c a).1.advance c b).1.position ≤ t.period := by
      rcases Nat.eq_zero_or_pos ((t.advance c a).1.advance c b).2 with hnone | hsome
      · rw [hnone] at hsecond hk
        have hle := Timer.advance_position_le hi ht hk
        push_cast at hsecond
        linarith
      · simpa using Timer.advance_position_le hi' ht' hsome
    rw [Timer.advance_unique hi ht hend (Timer.advance_position_pos hi' ht' b) hle,
      Timer.advance_fst c (t.advance c a).1 b, Timer.advance_fst c t a]

/-- Settles O32: the two positions end in the same place. -/
theorem timerChunkingLaw : Obligations.TimerChunkingLaw := fun _ _ a _ _ hb h => Timer.advance_add h a hb

/-- Settles O33: the position is that of before the change, and the period the new one. -/
theorem periodChangeWaitsForTheOldPosition : Obligations.PeriodChangeWaitsForTheOldPosition := fun _ _ _ _ _ _ hi ht =>
  ⟨fun hn => Timer.advance_of_pos hi (sub_pos.mpr hn), Timer.advance_ticks_of_le hi ht⟩

end Sys2Proof.Machine
end

section
/-! PROOFS. The sample step (rules R127, R130, R294 to R298): what it does to each channel and to the filter chain. -/

namespace Sys2Proof.Machine

/-- What a sample step does to each channel, given the frame ticks; the rest but the filter state and the samples is as
before. -/
structure SampleStepWork (s : State) (fs : FrameSequencer) (ticks : List FrameTick) (t : State) : Prop where
  fs : t.apu.fs = fs
  p1 : t.apu.p1 = s.apu.p1.sampleWork s.cfg ticks
  p2 : t.apu.p2 = s.apu.p2.sampleWork s.cfg ticks
  tri : t.apu.tri = s.apu.tri.sampleWork s.cfg ticks
  noise : t.apu.noise = s.apu.noise.sampleWork s.cfg ticks
  dmc : (t.apu.dmc, t.bus) = s.apu.dmc.sampleWork s.cfg s.bus
  sampleClock : t.apu.sampleClock = s.apu.sampleClock
  config : t.config = s.config
  pending : t.pending = s.pending
  reads : t.reads = s.reads
  openBusDraws : t.openBusDraws = s.openBusDraws

theorem sampleStep_work {s t : State} (h : sampleStep s = .ok t) :
    ∃ fs ticks, s.apu.fs.advance s.cfg s.cfg.cps = .ok (fs, ticks) ∧ SampleStepWork s fs ticks t := by
  obtain ⟨fs, ticks, x, hfs, -, rfl⟩ := sampleStep_cases h
  exact ⟨fs, ticks, hfs, ⟨rfl, rfl, rfl, rfl, rfl, rfl, rfl, rfl, rfl, rfl, rfl⟩⟩

/-- Settles O27: the same ticks, and each channel's work on itself. -/
theorem channelsDoNotReadEachOther : Obligations.ChannelsDoNotReadEachOther := by
  intro s₁ s₂ t₁ t₂ hcfg hfs h₁ h₂
  obtain ⟨fs₁, ticks₁, ha₁, w₁⟩ := sampleStep_work h₁
  obtain ⟨fs₂, ticks₂, ha₂, w₂⟩ := sampleStep_work h₂
  obtain ⟨-, rfl⟩ : fs₁ = fs₂ ∧ ticks₁ = ticks₂ := by
    rw [hcfg, hfs, ha₂] at ha₁
    exact Prod.mk.inj (Except.ok.inj ha₁.symm)
  refine ⟨fun h => ?_, fun h => ?_, fun h => ?_, fun h => ?_, fun h hbus => Prod.mk.inj ?_⟩
  · rw [w₁.p1, w₂.p1, hcfg, h]
  · rw [w₁.p2, w₂.p2, hcfg, h]
  · rw [w₁.tri, w₂.tri, hcfg, h]
  · rw [w₁.noise, w₂.noise, hcfg, h]
  · rw [w₁.dmc, w₂.dmc, hcfg, h, hbus]

/-- The one way the mixer answers: each amplitude does. -/
theorem Apu.mixedOutput_cases {c : Config} {a : Apu} {x : F64} (h : a.mixedOutput c = .ok x) :
    ∃ sq1 sq2 tri, a.p1.amp c = .ok sq1 ∧ a.p2.amp c = .ok sq2 ∧ a.tri.amp = .ok tri ∧
      x = mix sq1 sq2 tri a.noise.amp a.dmc.amp := by
  obtain ⟨sq1, h1, h⟩ := bind_eq_ok.mp h
  obtain ⟨sq2, h2, h⟩ := bind_eq_ok.mp h
  obtain ⟨tri, h3, h⟩ := bind_eq_ok.mp h
  exact ⟨sq1, sq2, tri, h1, h2, h3, (Except.ok.inj h).symm⟩

/-- Settles O28: the filter chain changes no amplitude. -/
theorem sampleStepFiltersTheMixAndEmits : Obligations.SampleStepFiltersTheMixAndEmits := by
  intro s t h
  obtain ⟨fs, ticks, x, -, hx, rfl⟩ := sampleStep_cases h
  obtain ⟨sq1, sq2, tri, h1, h2, h3, rfl⟩ := Apu.mixedOutput_cases hx
  exact ⟨sq1, sq2, tri, h1, h2, h3, rfl, rfl⟩

/-- The triangle moves while both its counters are above 0 (rule R223). -/
theorem TriangleChannel.onTimer_eq (t : TriangleChannel) (n : Nat) :
    t.onTimer n = { t with step := if 0 < t.linear ∧ 0 < t.len.remaining then (t.step + n) % 32 else t.step } := by
  have hrun : t.running = true ↔ 0 < t.linear ∧ 0 < t.len.remaining := by simp [TriangleChannel.running]
  rw [TriangleChannel.onTimer]
  simp only [hrun]
  split <;> rfl

theorem NoiseChannel.onTimer_eq (n : NoiseChannel) (k : Nat) :
    n.onTimer k = { n with lfsr := (lfsrStep n.mode)^[k] n.lfsr } := by
  rw [NoiseChannel.onTimer, lfsrSteps_eq_iterate]

/-- Settles O60: each channel's part, its frame work as a fold and its ticks as an iteration. -/
theorem sampleStepAdvancesEveryChannel : Obligations.SampleStepAdvancesEveryChannel := by
  intro s t h
  obtain ⟨fs, ticks, hfs, w⟩ := sampleStep_work h
  refine ⟨fs, ticks, hfs, w.fs, w.p1.trans ?_, w.p2.trans ?_, w.tri.trans ?_, w.noise.trans ?_, w.dmc.trans ?_,
    w.sampleClock, w.config, w.pending, w.reads, w.openBusDraws⟩
  · rw [PulseChannel.sampleWork, applyFrames_eq_foldl]
    rfl
  · rw [PulseChannel.sampleWork, applyFrames_eq_foldl]
    rfl
  · rw [TriangleChannel.sampleWork, applyFrames_eq_foldl]
    exact TriangleChannel.onTimer_eq _ _
  · rw [NoiseChannel.sampleWork, applyFrames_eq_foldl]
    exact NoiseChannel.onTimer_eq _ _
  · exact DmcChannel.onTimer_eq_iterate _ _ _

end Sys2Proof.Machine
end

section
/-! PROOFS. `ADVANCE` (rules R128, R131, R332, R391): as many sample steps and samples as the sample clock ticks, however the
cycles are split. -/

namespace Sys2Proof.Machine

theorem sampleSteps_sampleClock {k : Nat} {s t : State} (h : sampleSteps k s = .ok t) :
    t.apu.sampleClock = s.apu.sampleClock :=
  sampleSteps_induction (fun s t => t.apu.sampleClock = s.apu.sampleClock) (fun _ => rfl)
    (fun _ _ _ h k => k.trans h) (fun _ _ h => let ⟨_, _, _, w⟩ := sampleStep_work h; w.sampleClock) h

theorem sampleStep_samples_length {s t : State} (h : sampleStep s = .ok t) :
    t.samples.length = s.samples.length + 1 := by
  obtain ⟨_, _, _, -, -, -, -, hsamples⟩ := sampleStepFiltersTheMixAndEmits s t h
  rw [hsamples, List.length_append, List.length_singleton]

/-- One sample for each step (rule R298). -/
theorem sampleSteps_samples_length {k : Nat} {s t : State} (h : sampleSteps k s = .ok t) :
    t.samples.length = s.samples.length + k := by
  induction k generalizing s with
  | zero =>
    obtain rfl := Except.ok.inj h
    rfl
  | succ k ih =>
    obtain ⟨m, hm, hrest⟩ := bind_eq_ok.mp h
    rw [ih hrest, sampleStep_samples_length hm, Nat.add_assoc, Nat.add_comm 1]

theorem execAdv_samples_length {n : Nat} {s t : State} (h : execAdv n s = .next t) :
    t.samples.length = s.samples.length + (s.sampleTicks n).2 :=
  sampleSteps_samples_length (s := s.setSampleClock (s.sampleTicks n).1) (execAdv_cases h)

/-- Settles O22: a good state completes, and no sample step touches the sample clock. -/
theorem advanceRunsOneSampleStepPerTick : Obligations.AdvanceRunsOneSampleStepPerTick := by
  intro n s h
  obtain ⟨t, ht, -⟩ := execAdv_inv n h
  have hsteps := execAdv_cases ht
  exact ⟨t, ht, hsteps, sampleSteps_sampleClock hsteps, execAdv_samples_length ht⟩

/-- A sample step does not read the sample clock. -/
theorem sampleStep_setSampleClock {s t : State} (h : sampleStep s = .ok t) (clock : Timer) :
    sampleStep (s.setSampleClock clock) = .ok (t.setSampleClock clock) := by
  obtain ⟨fs, ticks, x, hfs, hx, rfl⟩ := sampleStep_cases h
  exact bind_eq_ok.mpr ⟨(fs, ticks), hfs, bind_eq_ok.mpr ⟨x, hx, rfl⟩⟩

theorem sampleSteps_setSampleClock {k : Nat} {s t : State} (h : sampleSteps k s = .ok t) (clock : Timer) :
    sampleSteps k (s.setSampleClock clock) = .ok (t.setSampleClock clock) := by
  induction k generalizing s with
  | zero => exact congrArg (fun s => Except.ok (s.setSampleClock clock)) (Except.ok.inj h)
  | succ k ih =>
    obtain ⟨m, hm, hrest⟩ := bind_eq_ok.mp h
    exact bind_eq_ok.mpr ⟨_, sampleStep_setSampleClock hm clock, ih hrest⟩

/-- The sample clock's ticks in `a + b` cycles: those of `ADVANCE a`, and those of `ADVANCE b` from the state it leaves. -/
theorem State.sampleTicks_add {a : Nat} (b : Nat) {s t : State} (hinv : s.Inv) (h : execAdv a s = .next t) :
    s.sampleTicks (a + b) = ((t.sampleTicks b).1, (s.sampleTicks a).2 + (t.sampleTicks b).2) := by
  have hclock : t.apu.sampleClock = (s.apu.sampleClock.advance s.cfg a).1 := sampleSteps_sampleClock (execAdv_cases h)
  have hcfg : t.cfg = s.cfg := congrArg AcceptedConfig.record (execAdv_frame h).config
  unfold State.sampleTicks
  rw [hclock, hcfg, Nat.cast_add, Timer.advance_add (.inr hinv.apu.sampleClock.period) a (Nat.cast_nonneg b)]

/-- Settles O25: the sample clock's own chunking law, and sample steps that do not read the clock. -/
theorem advanceChunkingLaw : Obligations.AdvanceChunkingLaw := by
  intro a b s s₁ hinv h
  have hfirst := sampleSteps_setSampleClock (execAdv_cases h) (s₁.sampleTicks b).1
  show execAdv b s₁ = execAdv (a + b) s
  have hsteps : sampleSteps ((s.sampleTicks a).2 + (s₁.sampleTicks b).2) (s.setSampleClock (s₁.sampleTicks b).1) =
      sampleSteps (s₁.sampleTicks b).2 (s₁.setSampleClock (s₁.sampleTicks b).1) := by
    rw [sampleSteps_add]
    exact congrArg (· >>= fun m => sampleSteps (s₁.sampleTicks b).2 m) hfirst
  rw [execAdv, execAdv, State.sampleTicks_add b hinv h]
  exact congrArg toOutcome hsteps.symm

/-- A clock at the start of a period ticks once for each whole period. -/
theorem Timer.advance_ticks_of_full {c : Config} {p n : Q} (hi : (⟨p, p⟩ : Timer).inert c = false) (hp : 0 < p)
    (hn : 0 ≤ n) : (((⟨p, p⟩ : Timer).advance c n).2 : Int) = ⌊n / p⌋ := by
  rcases lt_or_ge n p with hlt | hge
  · rw [Timer.advance_of_pos hi (sub_pos.mpr hlt)]
    exact (Int.floor_eq_zero_iff.mpr ⟨div_nonneg hn hp.le, (div_lt_one hp).mpr hlt⟩).symm
  · rw [Timer.advance_ticks_of_le hi hp hge]
    show ⌊(n - p) / p⌋ + 1 = ⌊n / p⌋
    rw [sub_div, div_self hp.ne', Int.floor_sub_one, sub_add_cancel]

/-- Settles O26: the clock's ticks from a period's start, and none of an inert clock. -/
theorem samplesAfterCycles : Obligations.SamplesAfterCycles := by
  intro T s t hinv hclock h
  refine ⟨fun hactive => ?_, fun hdisable hlow => ?_⟩
  · have hi : (⟨s.cfg.cps, s.cfg.cps⟩ : Timer).inert s.cfg = false := by
      rcases hactive with hclamp | hhigh
      · simp [Timer.inert, hclamp]
      · simp [Timer.inert, hhigh]
    have hticks := Timer.advance_ticks_of_full hi (Config.cps_pos s.cfg_wellFormed) (Nat.cast_nonneg T)
    rw [execAdv_samples_length h, State.sampleTicks, hclock, Nat.cast_add, hticks]
  · have hi : s.apu.sampleClock.inert s.cfg = true := by
      rw [hclock]
      simp [Timer.inert, hdisable, hlow]
    have hsteps := execAdv_cases h
    rw [State.sampleTicks, Timer.advance_inert hi] at hsteps
    rw [← Except.ok.inj hsteps, State.setSampleClock_samples]

end Sys2Proof.Machine
end

section
/-! PROOFS. The frame sequencer's pending override and its index fault (rules R143, R144, R360). -/

namespace Sys2Proof.Machine

/-- The override discards the Timer's ticks from the list only: the step still moves by their number (rule R144). -/
theorem FrameSequencer.advance_of_pending {fs : FrameSequencer} (h : fs.step < fs.mode.steps) (hp : fs.pending5 = true)
    (c : Config) (n : Q) :
    fs.advance c n = .ok ({ fs with
      timer := (fs.timer.advance c n).1
      step := (fs.step + (fs.timer.advance c n).2) % fs.mode.steps
      pending5 := false }, [⟨true, true⟩]) := by
  obtain ⟨ticks, hticks, -, -⟩ := frameTicks_spec fs.mode (fs.timer.advance c n).2 fs.step h
  simp only [FrameSequencer.advance, h, hticks, hp, bind, Except.bind, if_true]

/-- The range is checked before the Timer moves, so the fault does not wait for a tick (rules R143, R360). -/
theorem FrameSequencer.advance_of_ge {fs : FrameSequencer} (h : fs.mode.steps ≤ fs.step) (c : Config) (n : Q) :
    fs.advance c n = .error (.indexOutOfRange (.frameSteps fs.mode) fs.step) :=
  if_neg h.not_gt

/-- Settles O35: the table entries exist for a step in range, and the override takes their place. -/
theorem fiveStepOverrideFiresOnce : Obligations.FiveStepOverrideFiresOnce :=
  fun c _ cycles h hp => FrameSequencer.advance_of_pending h hp c cycles

/-- Settles O36: a step outside the range faults, with a tick or without one. -/
theorem frameStepOutOfRangeIsFatal : Obligations.FrameStepOutOfRangeIsFatal :=
  fun c _ cycles h => FrameSequencer.advance_of_ge h c cycles

end Sys2Proof.Machine
end

section
/-! PROOFS. The envelope (rules R162, R163, R201, R247): the divider counts down, its reload moves the level, and
the two give the closed form of the ticks after a restart. -/

namespace Sys2Proof.Machine

theorem Envelope.advance_of_start {e : Envelope} (hs : e.start = true) :
    e.advance = { e with start := false, divider := e.param, decayLevel := 15 } := if_pos hs

theorem Envelope.advance_of_divider_ne_zero {e : Envelope} (hs : e.start = false) (hd : e.divider ≠ 0) :
    e.advance = { e with divider := e.divider - 1 } := by
  rw [Envelope.advance, if_neg (Bool.eq_false_iff.mp hs), if_neg hd]

/-- The level that a reload of the divider leaves (rule R162). -/
def Envelope.reloadLevel (loop : Bool) (level : Nat) : Nat :=
  if 0 < level then level - 1 else if loop then 15 else 0

theorem Envelope.advance_of_divider_eq_zero {e : Envelope} (hs : e.start = false) (hd : e.divider = 0) :
    e.advance = { e with divider := e.param, decayLevel := Envelope.reloadLevel e.loop e.decayLevel } := by
  rw [Envelope.advance, if_neg (Bool.eq_false_iff.mp hs), if_pos hd, Envelope.reloadLevel]
  rcases Nat.eq_zero_or_pos e.decayLevel with hzero | hpos
  · cases hloop : e.loop <;> simp [hzero]
  · simp [hpos]

theorem Envelope.iterate_advance_of_le_divider {e : Envelope} (hs : e.start = false) {j : Nat} (hj : j ≤ e.divider) :
    Envelope.advance^[j] e = { e with divider := e.divider - j } := by
  induction j with
  | zero => rfl
  | succ j ih =>
    have hne : e.divider - j ≠ 0 := Nat.sub_ne_zero_of_lt hj
    rw [Function.iterate_succ_apply', ih (Nat.le_of_succ_le hj),
      Envelope.advance_of_divider_ne_zero (e := { e with divider := e.divider - j }) hs hne, Nat.sub_sub]

theorem Envelope.iterate_advance_divider_add_one {e : Envelope} (hs : e.start = false) :
    Envelope.advance^[e.divider + 1] e =
      { e with divider := e.param, decayLevel := Envelope.reloadLevel e.loop e.decayLevel } := by
  rw [Function.iterate_succ_apply', Envelope.iterate_advance_of_le_divider hs le_rfl]
  exact Envelope.advance_of_divider_eq_zero (e := { e with divider := e.divider - e.divider }) hs (Nat.sub_self _)

/-- The level after `q` reloads from 15: down to 0, or round every 16. -/
def Envelope.levelAfterReloads (loop : Bool) (q : Nat) : Nat := if loop then 15 - q % 16 else 15 - q

theorem Envelope.reloadLevel_levelAfterReloads (loop : Bool) (q : Nat) :
    Envelope.reloadLevel loop (Envelope.levelAfterReloads loop q) = Envelope.levelAfterReloads loop (q + 1) := by
  cases loop with
  | false =>
    simp only [Envelope.reloadLevel, Envelope.levelAfterReloads, Bool.false_eq_true, if_false]
    split <;> omega
  | true =>
    simp only [Envelope.reloadLevel, Envelope.levelAfterReloads, if_true]
    split <;> omega

/-- The envelope `j + 1` ticks after a restart. -/
def Envelope.afterRestart (e : Envelope) (j : Nat) : Envelope :=
  { e with
    start := false
    divider := e.param - j % (e.param + 1)
    decayLevel := Envelope.levelAfterReloads e.loop (j / (e.param + 1)) }

/-- A tick goes on to the next place of the divider's cycle, and at its last place to the next cycle. -/
theorem Envelope.advance_afterRestart (e : Envelope) (j : Nat) :
    (e.afterRestart j).advance = e.afterRestart (j + 1) := by
  have hpos : 0 < e.param + 1 := e.param.succ_pos
  have hlt : j % (e.param + 1) < e.param + 1 := Nat.mod_lt j hpos
  have hj : j % (e.param + 1) + (e.param + 1) * (j / (e.param + 1)) = j := Nat.mod_add_div j _
  by_cases hlast : j % (e.param + 1) = e.param
  · obtain ⟨hdiv, hmod⟩ : (j + 1) / (e.param + 1) = j / (e.param + 1) + 1 ∧ (j + 1) % (e.param + 1) = 0 :=
      (Nat.div_mod_unique hpos).mpr ⟨by rw [mul_add]; omega, hpos⟩
    have hzero : (e.afterRestart j).divider = 0 := by rw [Envelope.afterRestart, hlast, Nat.sub_self]
    rw [Envelope.advance_of_divider_eq_zero rfl hzero]
    simp only [Envelope.afterRestart, hdiv, hmod, Nat.sub_zero, Envelope.reloadLevel_levelAfterReloads]
  · obtain ⟨hdiv, hmod⟩ : (j + 1) / (e.param + 1) = j / (e.param + 1) ∧
        (j + 1) % (e.param + 1) = j % (e.param + 1) + 1 :=
      (Nat.div_mod_unique hpos).mpr ⟨by omega, by omega⟩
    have hne : (e.afterRestart j).divider ≠ 0 :=
      Nat.sub_ne_zero_of_lt (lt_of_le_of_ne (Nat.le_of_lt_succ hlt) hlast)
    rw [Envelope.advance_of_divider_ne_zero rfl hne]
    simp only [Envelope.afterRestart, hdiv, hmod, Nat.sub_sub]

theorem Envelope.iterate_advance_of_start {e : Envelope} (hs : e.start = true) (j : Nat) :
    Envelope.advance^[j + 1] e = e.afterRestart j := by
  induction j with
  | zero =>
    rw [Function.iterate_one, Envelope.advance_of_start hs, Envelope.afterRestart, Nat.zero_mod, Nat.zero_div,
      Nat.sub_zero, Envelope.levelAfterReloads, Nat.zero_mod, ite_self]
  | succ j ih => rw [Function.iterate_succ_apply', ih, Envelope.advance_afterRestart]

/-- Settles O37: by induction on the ticks, from the restart and from a divider that counts down. -/
theorem envelopeDecaysAfterRestart : Obligations.EnvelopeDecaysAfterRestart :=
  ⟨fun _ _ => ⟨rfl, rfl⟩, fun _ => ⟨rfl, Envelope.iterate_advance_of_start, fun hs =>
    ⟨fun _ hj => Envelope.iterate_advance_of_le_divider hs hj, Envelope.iterate_advance_divider_add_one hs⟩⟩⟩

end Sys2Proof.Machine
end

section
/-! PROOFS. The length counter (rules R182, R184) and the half-frame ticks of the channels (rules R171 to R174, R202,
R222, R247). -/

namespace Sys2Proof.Machine

/-! ### The length counter -/

/-- The length counter after `n` half-frame ticks. -/
def LengthCounter.afterTicks (n : Nat) (l : LengthCounter) (halt : Bool) : LengthCounter :=
  if halt then l else { l with remaining := l.remaining - n }

@[simp] theorem LengthCounter.afterTicks_zero (l : LengthCounter) (halt : Bool) : l.afterTicks 0 halt = l :=
  ite_self l

theorem LengthCounter.clock_eq_afterTicks_one (l : LengthCounter) (halt : Bool) :
    l.clock halt = l.afterTicks 1 halt := by
  cases halt with
  | true => rfl
  | false =>
    obtain ⟨enabled, remaining, configuredLength⟩ := l
    cases remaining <;> rfl

@[simp] theorem LengthCounter.clock_afterTicks (n : Nat) (l : LengthCounter) (halt : Bool) :
    (l.afterTicks n halt).clock halt = l.afterTicks (n + 1) halt := by
  rw [LengthCounter.clock_eq_afterTicks_one]
  cases halt with
  | true => rfl
  | false => simp [LengthCounter.afterTicks, Nat.sub_sub]

theorem LengthCounter.iterate_clock (n : Nat) (l : LengthCounter) (halt : Bool) :
    (fun l : LengthCounter => l.clock halt)^[n] l = l.afterTicks n halt := by
  induction n with
  | zero => simp
  | succ n ih => rw [Function.iterate_succ_apply', ih, LengthCounter.clock_afterTicks]

theorem LengthCounter.gate_afterTicks (n : Nat) (l : LengthCounter) (halt : Bool) :
    (l.afterTicks n halt).gate halt = true ↔ halt = true ∨ n < l.remaining := by
  cases halt with
  | true => simp [LengthCounter.gate]
  | false => simp [LengthCounter.gate, LengthCounter.afterTicks, Nat.sub_eq_zero_iff_le]

theorem PulseChannel.iterate_onHalfFrame_len_halt (c : Config) (p : PulseChannel) (n : Nat) :
    ((PulseChannel.onHalfFrame c)^[n] p).len = p.len.afterTicks n p.halt ∧
      ((PulseChannel.onHalfFrame c)^[n] p).halt = p.halt := by
  induction n with
  | zero => simp
  | succ n ih =>
    obtain ⟨hlen, hhalt⟩ := ih
    simp [Function.iterate_succ_apply', PulseChannel.onHalfFrame, hlen, hhalt]

theorem TriangleChannel.iterate_onHalfFrame (t : TriangleChannel) (n : Nat) :
    TriangleChannel.onHalfFrame^[n] t = { t with len := t.len.afterTicks n t.control } := by
  induction n with
  | zero => simp
  | succ n ih => simp [Function.iterate_succ_apply', TriangleChannel.onHalfFrame, ih]

theorem NoiseChannel.iterate_onHalfFrame (ch : NoiseChannel) (n : Nat) :
    NoiseChannel.onHalfFrame^[n] ch = { ch with len := ch.len.afterTicks n ch.halt } := by
  induction n with
  | zero => simp
  | succ n ih => simp [Function.iterate_succ_apply', NoiseChannel.onHalfFrame, ih]

/-- Settles O39: by induction on the ticks, for the counter and for each kind of channel. -/
theorem lengthCounterCountsDownUnlessHalted : Obligations.LengthCounterCountsDownUnlessHalted := fun n =>
  ⟨fun l halt => ⟨l.iterate_clock n halt, l.gate_afterTicks n halt⟩,
    fun c p => p.iterate_onHalfFrame_len_halt c n, fun t => t.iterate_onHalfFrame n, fun ch => ch.iterate_onHalfFrame n⟩

/-! ### The sweep -/

theorem Timer.cur_of_period_eq {t : Timer} {cur : Nat} (h : t.period = (cur : Q)) : t.cur = cur := by
  rw [Timer.cur, h, Int.floor_natCast, Int.toNat_natCast]

theorem Sweep.target_eq (sw : Sweep) (cur : Nat) : sw.target cur =
    if sw.negate = false then (cur : Int) + (cur / 2 ^ sw.shift : Nat)
    else if sw.convention = .ones then (cur : Int) - (cur / 2 ^ sw.shift : Nat) - 1
    else (cur : Int) - (cur / 2 ^ sw.shift : Nat) := by
  rw [Sweep.target, Nat.shiftRight_eq_div_pow]
  cases hnegate : sw.negate <;> cases hconvention : sw.convention <;> rfl

theorem Sweep.mute_iff (sw : Sweep) (cur : Nat) : sw.mute cur = true ↔ cur < 16 ∨ 0xFFE < sw.target cur := by
  simp [Sweep.mute]

theorem Sweep.advance_of_reload {sw : Sweep} (h : sw.reload = true) :
    sw.advance = { sw with counter := sw.dividerPeriod, reload := false } := if_pos h

theorem Sweep.advance_of_counter_eq_zero {sw : Sweep} (hr : sw.reload = false) (hc : sw.counter = 0) :
    sw.advance = { sw with counter := sw.dividerPeriod } := by
  rw [Sweep.advance, if_neg (Bool.eq_false_iff.mp hr), if_pos hc]

theorem Sweep.advance_of_counter_ne_zero {sw : Sweep} (hr : sw.reload = false) (hc : sw.counter ≠ 0) :
    sw.advance = { sw with counter := sw.counter - 1 } := by
  rw [Sweep.advance, if_neg (Bool.eq_false_iff.mp hr), if_neg hc]

theorem Sweep.writesBack_iff (sw : Sweep) (t : Timer) : sw.writesBack t = true ↔
    sw.reload = false ∧ sw.counter = 0 ∧ sw.enabled = true ∧ ¬sw.mute t.cur = true ∧ sw.shift ≠ 0 := by
  simp [Sweep.writesBack, and_assoc]

theorem Sweep.advanceTimer_of_writesBack {sw : Sweep} {t : Timer} (h : sw.writesBack t = true) (c : Config) :
    sw.advanceTimer c t = { t with period := c.clampP ((sw.target t.cur : Int) : Q) } := if_pos h

theorem Sweep.advanceTimer_of_not_writesBack {sw : Sweep} {t : Timer} (h : ¬sw.writesBack t = true) (c : Config) :
    sw.advanceTimer c t = t := if_neg h

/-- Settles O38: by the sweep's courses, a write-back being the one that moves the Timer. -/
theorem sweepHalfFrameTick : Obligations.SweepHalfFrameTick := by
  intro c p cur hperiod sw delta target mute q
  have hcur : p.timer.cur = cur := Timer.cur_of_period_eq hperiod
  have htarget : sw.target p.timer.cur = target := by rw [hcur]; exact sw.target_eq cur
  have hmute : sw.mute p.timer.cur = true ↔ mute := by rw [Sweep.mute_iff, htarget, hcur]
  have hwrites := sw.writesBack_iff p.timer
  rw [hmute] at hwrites
  have hstill := fun h => Sweep.advanceTimer_of_not_writesBack (mt hwrites.mp h) c
  refine ⟨hmute, fun hr => ⟨Sweep.advance_of_reload hr, hstill ?_⟩,
    fun hr hc => ⟨Sweep.advance_of_counter_ne_zero hr hc, hstill fun ⟨_, hzero, _⟩ => hc hzero⟩,
    fun hr hc => ⟨Sweep.advance_of_counter_eq_zero hr hc, fun he hm hs => ?_, fun hoff => hstill ?_⟩,
    p.len.clock_eq_afterTicks_one p.halt, rfl, rfl, rfl, rfl, rfl⟩
  · rintro ⟨hnoReload, -⟩
    exact Bool.noConfusion (hr.symm.trans hnoReload)
  · rw [← htarget]
    exact Sweep.advanceTimer_of_writesBack (hwrites.mpr ⟨hr, hc, he, hm, hs⟩) c
  · rintro ⟨-, -, henabled, hunmuted, hshift⟩
    rcases hoff with hdisabled | hmuted | hzero
    · exact Bool.noConfusion (hdisabled.symm.trans henabled)
    · exact hunmuted hmuted
    · exact hshift hzero

end Sys2Proof.Machine
end

section
/-! PROOFS. A pulse channel's duty bit (rule R204) and its amplitude (rules R205, R206). -/

namespace Sys2Proof.Machine

theorem LengthCounter.not_gate_iff (l : LengthCounter) (halt : Bool) :
    (!l.gate halt) = true ↔ l.remaining = 0 ∧ halt = false := by
  simp [LengthCounter.gate]

/-- The duty table has a row for the duty, and the row an entry for the step, of a channel in range. -/
theorem PulseChannel.squareOut_bit {c : Config} (hc : c.WellFormed) {p : PulseChannel} (hp : p.Ok c) :
    ∃ bit : Nat, (c.dutyTable[p.duty]?.bind fun row => row[p.step]?) = some bit ∧ bit ≤ 1 ∧
      p.squareOut c = .ok bit := by
  obtain ⟨row, hmem, hrow, hrowGet⟩ :=
    tableGet_of_lt .dutyTable (l := c.dutyTable) (i := p.duty) (hc.dutySize ▸ hp.duty)
  obtain ⟨hlength, hbits⟩ := hc.dutyRows row hmem
  obtain ⟨bit, hbitMem, hbit, hbitGet⟩ :=
    tableGet_of_lt .dutyRow (l := row) (i := p.step) (hlength ▸ hp.step)
  exact ⟨bit, by rw [hrow]; exact hbit, hbits bit hbitMem, bind_eq_ok.mpr ⟨row, hrowGet, hbitGet⟩⟩

theorem PulseChannel.amp_of_squareOut {c : Config} {p : PulseChannel} {bit : Nat} (h : p.squareOut c = .ok bit) :
    p.amp c = .ok (if p.muted = true ∨ (p.len.remaining = 0 ∧ p.halt = false) then 0 else bit * p.env.level) := by
  have hgate := p.len.not_gate_iff p.halt
  rw [PulseChannel.amp]
  by_cases hmuted : p.muted = true
  · rw [if_pos hmuted, if_pos (.inl hmuted)]
  by_cases hclosed : (!p.len.gate p.halt) = true
  · rw [if_neg hmuted, if_pos hclosed, if_pos (.inr (hgate.mp hclosed))]
  · rw [if_neg hmuted, if_neg hclosed, if_neg (not_or.mpr ⟨hmuted, mt hgate.mpr hclosed⟩), h]
    rfl

/-- Settles O40: the duty bit exists in range, and the amplitude is 0 or that bit times the level. -/
theorem pulseAmplitude : Obligations.PulseAmplitude := by
  intro c p hc hp
  obtain ⟨bit, hentry, hle, hout⟩ := PulseChannel.squareOut_bit hc hp
  exact ⟨bit, hentry, hle, PulseChannel.amp_of_squareOut hout, fun _ => PulseChannel.amp_le hc hp⟩

end Sys2Proof.Machine
end

section
/-! PROOFS. The triangle's linear counter over its quarter-frame ticks (rule R221), and how the triangle moves and freezes
(rules R222, R223, R225). -/

namespace Sys2Proof.Machine

/-! ### The linear counter -/

/-- A quarter-frame tick of the linear counter; an armed reload stays armed only under control. -/
theorem TriangleChannel.onQuarterFrame_eq (t : TriangleChannel) :
    t.onQuarterFrame = { t with
      linear := if t.linReload then t.linLength else t.linear - 1
      linReload := t.linReload && t.control } := by
  obtain ⟨sh, timer, step, linear, linLength, linReload, control, len⟩ := t
  cases linReload with
  | true => rfl
  | false => cases linear <;> rfl

theorem TriangleChannel.iterate_onQuarterFrame_of_not_reload {t : TriangleChannel} (h : t.linReload = false) (n : Nat) :
    TriangleChannel.onQuarterFrame^[n] t = { t with linear := t.linear - n } := by
  induction n with
  | zero => rfl
  | succ n ih =>
    rw [Function.iterate_succ_apply', ih, TriangleChannel.onQuarterFrame_eq]
    simp [h, Nat.sub_sub]

theorem TriangleChannel.onQuarterFrame_of_reload {t : TriangleChannel} (h : t.linReload = true) :
    t.onQuarterFrame = { t with linear := t.linLength, linReload := t.control } := if_pos h

/-- Under control the reload stays armed, and a further tick loads the same value. -/
theorem TriangleChannel.iterate_onQuarterFrame_of_control {t : TriangleChannel} (h : t.linReload = true)
    (hc : t.control = true) (n : Nat) :
    TriangleChannel.onQuarterFrame^[n + 1] t = { t with linear := t.linLength } := by
  induction n with
  | zero => rw [Function.iterate_one, TriangleChannel.onQuarterFrame_of_reload h, hc, ← h]
  | succ n ih =>
    rw [Function.iterate_succ_apply', ih,
      TriangleChannel.onQuarterFrame_of_reload (t := { t with linear := t.linLength }) h, hc, ← h]

/-- Settles O41: the countdown by induction on the ticks, begun by the reload where one is armed. -/
theorem linearCounterReloadsAndCountsDown : Obligations.LinearCounterReloadsAndCountsDown := by
  intro t n
  refine ⟨fun h => TriangleChannel.iterate_onQuarterFrame_of_not_reload h (n + 1), fun h hc => ?_,
    fun h hc => TriangleChannel.iterate_onQuarterFrame_of_control h hc n⟩
  rw [Function.iterate_succ_apply, TriangleChannel.onQuarterFrame_of_reload h,
    TriangleChannel.iterate_onQuarterFrame_of_not_reload
      (t := { t with linear := t.linLength, linReload := t.control }) hc, hc]

/-! ### The frame work and the step -/

theorem LengthCounter.clock_of_remaining_eq_zero {l : LengthCounter} (h : l.remaining = 0) (halt : Bool) :
    l.clock halt = l := by
  simp [LengthCounter.clock, h]

section
variable (ticks : List FrameTick) (t : TriangleChannel)

theorem TriangleChannel.applyFrames_step :
    (applyFrames TriangleChannel.onQuarterFrame TriangleChannel.onHalfFrame ticks t).step = t.step :=
  applyFrames_keeps (onHalf := TriangleChannel.onHalfFrame) (fun u => u.step = t.step)
    (fun u h => (congrArg TriangleChannel.step u.onQuarterFrame_eq).trans h) (fun _ h => h) ticks t rfl

theorem TriangleChannel.applyFrames_remaining_eq_zero (h : t.len.remaining = 0) :
    (applyFrames TriangleChannel.onQuarterFrame TriangleChannel.onHalfFrame ticks t).len.remaining = 0 :=
  applyFrames_keeps (fun u => u.len.remaining = 0)
    (fun u h => (congrArg (·.len.remaining) u.onQuarterFrame_eq).trans h)
    (fun u h => (congrArg (·.remaining) (LengthCounter.clock_of_remaining_eq_zero h u.control)).trans h) ticks t h

/-- With no reload armed none is armed by a tick, so a linear counter of 0 stays there. -/
theorem TriangleChannel.applyFrames_linear_eq_zero (h : t.linear = 0) (hr : t.linReload = false) :
    (applyFrames TriangleChannel.onQuarterFrame TriangleChannel.onHalfFrame ticks t).linear = 0 := by
  have hquarter (u : TriangleChannel) (hu : u.linear = 0 ∧ u.linReload = false) :
      u.onQuarterFrame.linear = 0 ∧ u.onQuarterFrame.linReload = false := by
    obtain ⟨hlinear, hreload⟩ := hu
    simp [TriangleChannel.onQuarterFrame_eq, hlinear, hreload]
  exact (applyFrames_keeps (onHalf := TriangleChannel.onHalfFrame) (fun u => u.linear = 0 ∧ u.linReload = false)
    hquarter (fun _ hu => hu) ticks t ⟨h, hr⟩).1

theorem TriangleChannel.sampleWork_step (c : Config) :
    let u := applyFrames TriangleChannel.onQuarterFrame TriangleChannel.onHalfFrame ticks t
    (t.sampleWork c ticks).step =
      if 0 < u.linear ∧ 0 < u.len.remaining then (t.step + (u.timer.advance c c.cps).2) % 32 else t.step := by
  intro u
  rw [← TriangleChannel.applyFrames_step ticks t]
  exact congrArg TriangleChannel.step (TriangleChannel.onTimer_eq _ _)

end

theorem TriangleChannel.amp_congr {t u : TriangleChannel} (h : t.step = u.step) : t.amp = u.amp := by
  rw [TriangleChannel.amp, TriangleChannel.amp, h]

/-- Settles O42: the frame work keeps the step, and the amplitude is a function of the step alone. -/
theorem triangleFreezesAndHoldsItsLevel : Obligations.TriangleFreezesAndHoldsItsLevel := by
  intro c ticks t u n after
  have hstep : after.step = if 0 < u.linear ∧ 0 < u.len.remaining then (t.step + n) % 32 else t.step :=
    TriangleChannel.sampleWork_step ticks t c
  refine ⟨fun hlinear hremaining => hstep.trans (if_pos ⟨hlinear, hremaining⟩), fun hzero => ?_,
    TriangleChannel.applyFrames_remaining_eq_zero ticks t, TriangleChannel.applyFrames_linear_eq_zero ticks t⟩
  have hfrozen : after.step = t.step := hstep.trans (if_neg (by omega))
  exact ⟨hfrozen, TriangleChannel.amp_congr hfrozen⟩

end Sys2Proof.Machine
end

section
/-! PROOFS. The noise channel's LFSR (rules R241 to R243): a step bit by bit, its linearity under XOR, and its periods in
the two modes. A long step `f` satisfies `f¹⁵ = 1 + f`; squaring that (XOR has characteristic 2) gives `f` at powers of
two, and with it the period by the prime divisors of 32767. -/

namespace Sys2Proof.Machine

open Function

/-! ### One step by bits -/

section
variable (mode : Bool) (l : BitVec 15)

theorem lfsrStep_getLsbD_of_lt {i : Nat} (h : i < 14) : (lfsrStep mode l).getLsbD i = l.getLsbD (i + 1) := by
  simp [lfsrStep, h, Nat.add_comm]

theorem lfsrStep_getLsbD_last :
    (lfsrStep mode l).getLsbD 14 = Bool.xor (l.getLsbD 0) (if mode then l.getLsbD 6 else l.getLsbD 1) := by
  cases mode <;> simp [lfsrStep]

/-- Bits that no feedback has reached yet are bits of the start. -/
theorem lfsrStep_iterate_getLsbD {n i : Nat} (h : i + n < 15) :
    ((lfsrStep mode)^[n] l).getLsbD i = l.getLsbD (i + n) := by
  induction n generalizing l with
  | zero => rfl
  | succ n ih =>
    rw [iterate_succ_apply, ih _ (by omega), lfsrStep_getLsbD_of_lt _ _ (by omega), Nat.add_assoc]

end

/-- Settles O43: a step shifts right and puts the feedback at bit 14. -/
theorem lfsrStepShiftsInTheTapXor : Obligations.LfsrStepShiftsInTheTapXor := fun mode l =>
  ⟨fun _ h => lfsrStep_getLsbD_of_lt mode l h, lfsrStep_getLsbD_last mode l, lfsrStep_ne_zero mode l⟩

/-! ### A step is linear under XOR -/

theorem lfsrStep_xor (mode : Bool) : Semiconj₂ (lfsrStep mode) (· ^^^ ·) (· ^^^ ·) := by
  intro a b
  apply BitVec.eq_of_getLsbD_eq
  intro i hi
  obtain h | rfl : i < 14 ∨ i = 14 := by omega
  · simp only [BitVec.getLsbD_xor, lfsrStep_getLsbD_of_lt _ _ h]
  · simp only [BitVec.getLsbD_xor, lfsrStep_getLsbD_last]
    cases mode <;> simp [Bool.xor_left_comm]

theorem lfsrStep_iterate_xor (mode : Bool) (n : Nat) (a b : BitVec 15) :
    (lfsrStep mode)^[n] (a ^^^ b) = (lfsrStep mode)^[n] a ^^^ (lfsrStep mode)^[n] b :=
  (lfsrStep_xor mode).iterate n a b

/-! ### Long jumps of the long mode -/

/-- The recurrence of the long mode: each bit of the register after 15 steps is a feedback bit, the XOR of two
neighbours. -/
theorem lfsrStep_long_iterate_15 (l : BitVec 15) : (lfsrStep false)^[15] l = l ^^^ lfsrStep false l := by
  apply BitVec.eq_of_getLsbD_eq
  intro i hi
  have hsplit : (lfsrStep false)^[15] l = (lfsrStep false)^[14 - i] (lfsrStep false ((lfsrStep false)^[i] l)) := by
    rw [← iterate_succ_apply' (lfsrStep false), ← iterate_add_apply, show 14 - i + i.succ = 15 by omega]
  have hhead (m : BitVec 15) : ((lfsrStep false)^[i] m).getLsbD 0 = m.getLsbD i := by
    simpa using lfsrStep_iterate_getLsbD false m (i := 0) (n := i) (by omega)
  have hnext : ((lfsrStep false)^[i] l).getLsbD 1 = (lfsrStep false l).getLsbD i := by
    calc ((lfsrStep false)^[i] l).getLsbD 1
      _ = (lfsrStep false ((lfsrStep false)^[i] l)).getLsbD 0 := (lfsrStep_getLsbD_of_lt _ _ (by omega)).symm
      _ = ((lfsrStep false)^[i] (lfsrStep false l)).getLsbD 0 := by
        rw [← iterate_succ_apply' (lfsrStep false), iterate_succ_apply]
      _ = (lfsrStep false l).getLsbD i := hhead _
  rw [hsplit, lfsrStep_iterate_getLsbD _ _ (by omega), show i + (14 - i) = 14 by omega, lfsrStep_getLsbD_last, hhead,
    if_neg Bool.false_ne_true, hnext, BitVec.getLsbD_xor]

/-- A jump that is the XOR of two shorter ones is so when all three lengths double: the cross terms cancel. -/
theorem lfsrStep_iterate_double {mode : Bool} {a b c : Nat}
    (h : ∀ l, (lfsrStep mode)^[a] l = (lfsrStep mode)^[b] l ^^^ (lfsrStep mode)^[c] l) (l : BitVec 15) :
    (lfsrStep mode)^[2 * a] l = (lfsrStep mode)^[2 * b] l ^^^ (lfsrStep mode)^[2 * c] l := by
  have hcross := (Commute.iterate_iterate_self (lfsrStep mode) c b).eq l
  simp only [Nat.two_mul, iterate_add_apply, h, lfsrStep_iterate_xor, hcross, BitVec.xor_assoc, xor_cancel_left]

/-- Four doublings are the recurrence once more, so jumps by a power of two obey a recurrence of their own. -/
theorem lfsrStep_long_iterate_two_pow (j : Nat) (l : BitVec 15) :
    (lfsrStep false)^[2 ^ (j + 4)] l = (lfsrStep false)^[2 ^ j] l ^^^ (lfsrStep false)^[2 ^ (j + 1)] l := by
  induction j generalizing l with
  | zero => exact lfsrStep_long_iterate_15 (lfsrStep false l)
  | succ j ih => simpa only [← Nat.pow_succ'] using lfsrStep_iterate_double ih l

/-- The same with eight doublings, and `m` more steps on either side. -/
theorem lfsrStep_long_iterate_two_pow_add (j m : Nat) (l : BitVec 15) :
    (lfsrStep false)^[2 ^ (j + 8) + m] l =
      (lfsrStep false)^[2 ^ j + m] l ^^^ (lfsrStep false)^[2 ^ (j + 2) + m] l := by
  simp only [iterate_add_apply]
  rw [lfsrStep_long_iterate_two_pow (j + 4), lfsrStep_long_iterate_two_pow j, Nat.add_right_comm j 4 1,
    lfsrStep_long_iterate_two_pow (j + 1)]
  simp only [BitVec.xor_assoc, xor_cancel_left]

/-- At `2 ^ 15` the jumps come back to a single step. -/
theorem lfsrStep_long_iterate_two_pow_15 (l : BitVec 15) : (lfsrStep false)^[2 ^ 15] l = lfsrStep false l := by
  have h15 : (lfsrStep false)^[2 ^ 15] l = (lfsrStep false)^[2 ^ 7] l ^^^ (lfsrStep false)^[2 ^ 9] l :=
    lfsrStep_long_iterate_two_pow_add 7 0 l
  have h9 : (lfsrStep false)^[2 ^ 9] l = (lfsrStep false)^[2 ^ 1] l ^^^ (lfsrStep false)^[2 ^ 3] l :=
    lfsrStep_long_iterate_two_pow_add 1 0 l
  have h7 : (lfsrStep false)^[2 ^ 7] l = (lfsrStep false)^[2 ^ 3] l ^^^ (lfsrStep false)^[2 ^ 4] l :=
    lfsrStep_long_iterate_two_pow 3 l
  have h4 : (lfsrStep false)^[2 ^ 4] l = lfsrStep false l ^^^ (lfsrStep false)^[2 ^ 1] l :=
    lfsrStep_long_iterate_two_pow 0 l
  rw [h15, BitVec.xor_comm, h9, h7, h4, BitVec.xor_comm (lfsrStep false l)]
  simp only [BitVec.xor_assoc, xor_cancel_left]

/-! ### Periods -/

/-- A period that no quotient by one of its primes is a period of, is the least one. -/
theorem minimalPeriod_eq_of_primeFactors {α : Type} {f : α → α} {x : α} {n : Nat} (hper : IsPeriodicPt f n x)
    (hn : n ≠ 0) (hprime : ∀ p ∈ n.primeFactorsList, ¬ IsPeriodicPt f (n / p) x) : minimalPeriod f x = n := by
  obtain ⟨c, hc⟩ := hper.minimalPeriod_dvd
  by_cases hc1 : c = 1
  · rw [hc, hc1, Nat.mul_one]
  obtain ⟨p, hp, d, rfl⟩ := Nat.exists_prime_and_dvd hc1
  have hquot : n = p * (minimalPeriod f x * d) := by rw [hc, Nat.mul_left_comm]
  refine absurd ?_ (hprime p (Nat.mem_primeFactorsList'.mpr ⟨hp, ⟨_, hquot⟩, hn⟩))
  rw [isPeriodicPt_iff_minimalPeriod_dvd, Nat.div_eq_of_eq_mul_right hp.pos hquot]
  exact Nat.dvd_mul_right _ _

theorem lfsrStep_short_minimalPeriod : minimalPeriod (lfsrStep true) 1 = 93 := by
  have hprimes : Nat.primeFactorsList 93 = [3, 31] := by simp
  refine minimalPeriod_eq_of_primeFactors (by decide +kernel) (by decide) ?_
  rw [hprimes]
  decide +kernel

/-- The jump of `2 ^ 15` steps from 3, whose step is 1, without its first step. -/
theorem lfsrStep_long_isPeriodicPt : IsPeriodicPt (lfsrStep false) 32767 1 := by
  have h1 : lfsrStep false 3 = 1 := by decide
  have hloop : (lfsrStep false)^[32767 + 1] 3 = lfsrStep false 3 := lfsrStep_long_iterate_two_pow_15 3
  rwa [iterate_succ_apply, h1] at hloop

theorem lfsrStep_long_not_isPeriodicPt_1057 : ¬ IsPeriodicPt (lfsrStep false) 1057 1 := by
  have hjump : (lfsrStep false)^[1057] 1 = (lfsrStep false)^[37] 1 ^^^ (lfsrStep false)^[49] 1 :=
    lfsrStep_long_iterate_two_pow_add 2 33 1
  rw [IsPeriodicPt, IsFixedPt, hjump]
  decide +kernel

theorem lfsrStep_long_not_isPeriodicPt_4681 : ¬ IsPeriodicPt (lfsrStep false) 4681 1 := by
  have hjump : (lfsrStep false)^[4681] 1 = (lfsrStep false)^[601] 1 ^^^ (lfsrStep false)^[649] 1 :=
    lfsrStep_long_iterate_two_pow_add 4 585 1
  rw [IsPeriodicPt, IsFixedPt, hjump]
  decide +kernel

theorem lfsrStep_long_minimalPeriod : minimalPeriod (lfsrStep false) 1 = 32767 := by
  have hprimes : Nat.primeFactorsList 32767 = [7, 31, 151] := by simp
  have h217 : ¬ IsPeriodicPt (lfsrStep false) 217 1 := by decide +kernel
  refine minimalPeriod_eq_of_primeFactors lfsrStep_long_isPeriodicPt (by decide) ?_
  simpa [hprimes] using
    And.intro lfsrStep_long_not_isPeriodicPt_4681 ⟨lfsrStep_long_not_isPeriodicPt_1057, h217⟩

theorem lfsrSteps_first_return {mode : Bool} {l : BitVec 15} {n : Nat} (h : minimalPeriod (lfsrStep mode) l = n) :
    lfsrSteps mode n l = l ∧ ∀ k, 0 < k → k < n → lfsrSteps mode k l ≠ l := by
  subst h
  simp only [lfsrSteps_eq_iterate]
  exact ⟨iterate_minimalPeriod, fun _ h0 hk => not_isPeriodicPt_of_pos_of_lt_minimalPeriod h0.ne' hk⟩

/-! ### The ones of the long sequence -/

/-- The register after step `k + 1` of the long mode, as a number. -/
def longSequence (k : Nat) : Nat := (lfsrSteps false (k + 1) 1).toNat

theorem lfsrSteps_getLsbD_zero_iff (k : Nat) :
    (lfsrSteps false (k + 1) 1).getLsbD 0 = true ↔ ¬ 2 ∣ longSequence k := by
  rw [longSequence, BitVec.getLsbD, Nat.testBit_zero, decide_eq_true_iff, Nat.two_dvd_ne_zero]

theorem longSequence_injOn : Set.InjOn longSequence (Finset.range 32767) := by
  have hperiod : minimalPeriod (lfsrStep false) (lfsrStep false 1) = 32767 := by
    rw [minimalPeriod_apply ⟨_, by decide, lfsrStep_long_isPeriodicPt⟩, lfsrStep_long_minimalPeriod]
  have hinj : Set.InjOn (fun k => (lfsrStep false)^[k] (lfsrStep false 1)) (Set.Iio 32767) :=
    hperiod ▸ iterate_injOn_Iio_minimalPeriod
  intro i hi j hj hij
  have heq : lfsrSteps false (i + 1) 1 = lfsrSteps false (j + 1) 1 := BitVec.eq_of_toNat_eq hij
  rw [lfsrSteps_eq_iterate, lfsrSteps_eq_iterate] at heq
  exact hinj (Finset.mem_range.mp hi) (Finset.mem_range.mp hj) heq

/-- The long sequence runs through every nonzero register: it has as many as there are, all different. -/
theorem image_longSequence : (Finset.range 32767).image longSequence = Finset.Ioc 0 32767 := by
  apply Finset.eq_of_subset_of_card_le
  · intro m hm
    obtain ⟨k, -, rfl⟩ := Finset.mem_image.mp hm
    have hne : lfsrSteps false (k + 1) 1 ≠ 0 :=
      lfsrSteps_keeps (· ≠ 0) false (lfsrStep_ne_zero false) _ 1 (by decide)
    have hpos : longSequence k ≠ 0 := fun h => hne (BitVec.eq_of_toNat_eq h)
    have hlt : longSequence k < 2 ^ 15 := (lfsrSteps false (k + 1) 1).isLt
    rw [Finset.mem_Ioc]
    omega
  · rw [Finset.card_image_of_injOn longSequence_injOn, Nat.card_Ioc, Finset.card_range]

theorem card_odd_Ioc (n : Nat) : ((Finset.Ioc 0 n).filter (¬ 2 ∣ ·)).card = n - n / 2 := by
  have hall := Finset.card_filter_add_card_filter_not (s := Finset.Ioc 0 n) (2 ∣ ·)
  rw [Nat.Ioc_filter_dvd_card_eq_div, Nat.card_Ioc] at hall
  omega

theorem count_odd_longSequence : Nat.count (fun k => ¬ 2 ∣ longSequence k) 32767 = 16384 := by
  calc Nat.count (fun k => ¬ 2 ∣ longSequence k) 32767
    _ = (((Finset.range 32767).image longSequence).filter (¬ 2 ∣ ·)).card := by
      rw [Nat.count_eq_card_filter_range, Finset.filter_image,
        Finset.card_image_of_injOn (longSequence_injOn.mono (Finset.filter_subset _ _))]
    _ = 16384 := by rw [image_longSequence, card_odd_Ioc]

/-- Settles O44: both least periods by their prime divisors, and the ones of the long sequence as the odd numbers below
`2 ^ 15`. -/
theorem lfsrPeriods : Obligations.LfsrPeriods := by
  obtain ⟨hshort, hshortFirst⟩ := lfsrSteps_first_return lfsrStep_short_minimalPeriod
  obtain ⟨hlong, hlongFirst⟩ := lfsrSteps_first_return lfsrStep_long_minimalPeriod
  refine ⟨NoiseChannel.noiseOut_eq, hshort, hshortFirst, hlong, hlongFirst, ?_⟩
  rw [← count_odd_longSequence, Nat.count]
  exact List.countP_congr fun k _ => by rw [lfsrSteps_getLsbD_zero_iff, decide_eq_true_iff]

end Sys2Proof.Machine
end

section
/-! PROOFS. The interrupt line (rules R364 to R366): each operation but `ADVANCE` leaves it or, as an acknowledge, clears
it; `ADVANCE` leaves it or raises it at the end of a sample, a relation that composes over ticks and sample steps. -/

namespace Sys2Proof.Machine

/-! ### The operations that take no time -/

/-- The two writes that acknowledge the interrupt, by the operand bit that makes them one (rule R365). -/
def acknowledges (i : Instr) : Bool :=
  match i with
  | .wrStatus data => !enableField data 4
  | .wrDmcCtrl data => !irqEnabledField data
  | _ => false

theorem not_enableField_four_iff (data : Byte) : (!enableField data 4) = true ↔ data.toNat / 16 % 2 = 0 := by
  simp [enableField_eq]

theorem not_irqEnabledField_iff (data : Byte) : (!irqEnabledField data) = true ↔ data.toNat < 128 := by
  have hbyte := data.isLt
  simp only [irqEnabledField_eq, Bool.not_eq_true', beq_eq_false_iff_ne]
  omega

theorem acknowledges_iff (i : Instr) : acknowledges i = true ↔
    ∃ data : Byte, (i = .wrStatus data ∧ data.toNat / 16 % 2 = 0) ∨ (i = .wrDmcCtrl data ∧ data.toNat < 128) := by
  constructor
  · intro h
    cases i with
    | wrStatus data => exact ⟨data, .inl ⟨rfl, (not_enableField_four_iff data).mp h⟩⟩
    | wrDmcCtrl data => exact ⟨data, .inr ⟨rfl, (not_irqEnabledField_iff data).mp h⟩⟩
    | _ => cases h
  · rintro ⟨data, ⟨rfl, h⟩ | ⟨rfl, h⟩⟩
    · exact (not_enableField_four_iff data).mpr h
    · exact (not_irqEnabledField_iff data).mpr h

theorem DmcChannel.setEnabled_irqLatched (d : DmcChannel) (e : Bool) :
    (d.setEnabled e).irqLatched = (d.irqLatched && e) := by
  cases e with
  | false => exact (Bool.and_false _).symm
  | true =>
    rw [DmcChannel.setEnabled, if_pos rfl, Bool.and_true]
    split <;> rfl

theorem DmcChannel.writeCtrl_irqLatched {c : Config} {d e : DmcChannel} {data : Byte} (h : d.writeCtrl c data = .ok e) :
    e.irqLatched = (d.irqLatched && irqEnabledField data) := by
  obtain ⟨p, hp, -⟩ := bind_eq_ok.mp h
  rw [DmcChannel.writeCtrl_eq hp] at h
  rw [← Except.ok.inj h, irqEnabledField_eq, Bool.and_comm]

/-- Only an acknowledge moves the line, and it clears it. -/
theorem exec_irqLine {i : Instr} {s t : State} (hi : ∀ n, i ≠ .adv n) (h : exec i s = .next t) :
    t.irqLine = (s.irqLine && !acknowledges i) := by
  have hkept : s.irqLine = (s.irqLine && !false) := (Bool.and_true _).symm
  cases i with
  | wrP1Ctrl data | wrP1Sweep data | wrP1Tlo data | wrP2Ctrl data | wrP2Sweep data | wrP2Tlo data
  | wrTriLinear data | wrTriUnused data | wrTriTlo data | wrNoiseCtrl data | wrNoiseUnused data | wrFrame data
  | wrDmcLevel data | wrDmcAddr data | wrDmcLen data
  | wrUnmapped14 data | wrUnmapped16 data | wrUnmapped18 data | wrUnmapped19 data | wrUnmapped1A data
  | wrUnmapped1B data | wrUnmapped1C data | wrUnmapped1D data | wrUnmapped1E data | wrUnmapped1F data
  | rdStatus
  | rdOpen00 | rdOpen01 | rdOpen02 | rdOpen03 | rdOpen04 | rdOpen05 | rdOpen06 | rdOpen07 | rdOpen08 | rdOpen09
  | rdOpen0A | rdOpen0B | rdOpen0C | rdOpen0D | rdOpen0E | rdOpen0F | rdOpen10 | rdOpen11 | rdOpen12 | rdOpen13
  | rdOpen14 | rdOpen16 | rdOpen17 | rdOpen18 | rdOpen19 | rdOpen1A | rdOpen1B | rdOpen1C | rdOpen1D | rdOpen1E
  | rdOpen1F => exact holds_of_next (P := fun t => t.irqLine = _) h hkept
  | wrP1Thi data | wrP2Thi data | wrTriThi data | wrNoisePeriod data | wrNoiseLen data =>
    exact holds_of_map (P := fun t => t.irqLine = _) h (fun _ _ => hkept)
  | wrStatus data =>
    rw [acknowledges, Bool.not_not]
    exact holds_of_next (P := fun t => t.irqLine = _) h (DmcChannel.setEnabled_irqLatched _ _)
  | wrDmcCtrl data =>
    rw [acknowledges, Bool.not_not]
    exact holds_of_map (P := fun t => t.irqLine = _) h (fun _ => DmcChannel.writeCtrl_irqLatched)
  | adv n => exact absurd rfl (hi n)

/-! ### `ADVANCE` -/

/-- The fetch of the last byte of a sample that does not loop, with the interrupt enabled, lies between `d` and `e`. -/
structure DmcChannel.EndsSample (d e : DmcChannel) : Prop where
  loop : d.loop = false
  irqEnabled : d.irqEnabled = true
  before : 0 < d.bytesRemaining
  after : e.bytesRemaining = 0

/-- How time moves the interrupt, with what that depends on: the settings stay, and the bytes of a sample that does not
loop are only used up. -/
structure DmcChannel.IrqCourse (d e : DmcChannel) : Prop where
  still : e.still = d.still
  bytes : d.loop = false → e.bytesRemaining ≤ d.bytesRemaining
  irq : e.irqLatched = d.irqLatched ∨ e.irqLatched = true ∧ d.EndsSample e

theorem DmcChannel.loop_of_still_eq {d e : DmcChannel} (h : e.still = d.still) : e.loop = d.loop :=
  (congrArg DmcChannel.loop h : e.still.loop = d.still.loop)

theorem DmcChannel.irqEnabled_of_still_eq {d e : DmcChannel} (h : e.still = d.still) : e.irqEnabled = d.irqEnabled :=
  (congrArg DmcChannel.irqEnabled h : e.still.irqEnabled = d.still.irqEnabled)

/-- The output unit leaves the memory unit's count and the interrupt alone. -/
theorem DmcChannel.outputUnit_bytesRemaining_irqLatched (d : DmcChannel) :
    d.outputUnit.bytesRemaining = d.bytesRemaining ∧ d.outputUnit.irqLatched = d.irqLatched := by
  have hbit : d.bitStep.bytesRemaining = d.bytesRemaining ∧ d.bitStep.irqLatched = d.irqLatched := by
    unfold DmcChannel.bitStep
    split <;> exact ⟨rfl, rfl⟩
  rw [DmcChannel.outputUnit]
  rcases Nat.lt_or_ge 1 d.bitStep.bitsLeft with h | h
  · rw [DmcChannel.byteBoundary_of_more h]
    exact hbit
  · rw [DmcChannel.byteBoundary_of_last h]
    exact hbit

theorem DmcChannel.bytesRemaining_pos_of_fetches {d : DmcChannel} (h : d.fetches = true) : 0 < d.bytesRemaining :=
  of_decide_eq_true (Bool.and_eq_true_iff.mp h).2

namespace DmcChannel.IrqCourse

variable {d e f : DmcChannel}

theorem refl (d : DmcChannel) : d.IrqCourse d := ⟨rfl, fun _ => Nat.le_refl _, .inl rfl⟩

theorem trans (h : d.IrqCourse e) (k : e.IrqCourse f) : d.IrqCourse f where
  still := k.still.trans h.still
  bytes hl := (k.bytes ((DmcChannel.loop_of_still_eq h.still).trans hl)).trans (h.bytes hl)
  irq := by
    have hloop := DmcChannel.loop_of_still_eq h.still
    rcases k.irq with hk | ⟨hk, ends⟩
    · rcases h.irq with hh | ⟨hh, ends⟩
      · exact .inl (hk.trans hh)
      · have hused := k.bytes (hloop.trans ends.loop)
        exact .inr ⟨hk.trans hh, { ends with after := Nat.eq_zero_of_le_zero (ends.after ▸ hused) }⟩
    · have hl : d.loop = false := hloop.symm.trans ends.loop
      have hi : d.irqEnabled = true := (DmcChannel.irqEnabled_of_still_eq h.still).symm.trans ends.irqEnabled
      exact .inr ⟨hk, hl, hi, ends.before.trans_le (h.bytes hl), ends.after⟩

/-- A fetch raises the interrupt only with the last byte of a sample that does not loop (rule R264). -/
theorem takeByte (h : 0 < d.bytesRemaining) (b : Byte) : d.IrqCourse (d.takeByte b) := by
  by_cases hlast : d.bytesRemaining = 1
  · cases hl : d.loop with
    | true =>
      rw [DmcChannel.takeByte_of_last_loop hlast hl]
      exact ⟨rfl, fun hl' => absurd hl (ne_true_of_eq_false hl'), .inl rfl⟩
    | false =>
      rw [DmcChannel.takeByte_of_last hlast hl]
      refine ⟨rfl, fun _ => Nat.zero_le _, ?_⟩
      cases hi : d.irqEnabled with
      | true => exact .inr ⟨Bool.or_true _, hl, hi, h, rfl⟩
      | false => exact .inl (Bool.or_false _)
  · rw [DmcChannel.takeByte_of_more (by omega)]
    exact ⟨rfl, fun _ => Nat.sub_le _ _, .inl rfl⟩

theorem memoryUnit (d : DmcChannel) (bus : Bus) : d.IrqCourse (d.memoryUnit bus).1 := by
  cases hf : d.fetches with
  | false =>
    rw [DmcChannel.memoryUnit_of_not_fetches hf]
    exact refl d
  | true =>
    rw [DmcChannel.memoryUnit_of_fetches hf]
    exact takeByte (DmcChannel.bytesRemaining_pos_of_fetches hf) _

theorem outputUnit (d : DmcChannel) : d.IrqCourse d.outputUnit :=
  have ⟨hbytes, hirq⟩ := d.outputUnit_bytesRemaining_irqLatched
  ⟨d.outputUnit_still, fun _ => hbytes.le, .inl hirq⟩

theorem tick (d : DmcChannel) (bus : Bus) : d.IrqCourse (d.tick bus).1 := (memoryUnit d bus).trans (outputUnit _)

theorem sampleWork (c : Config) (d : DmcChannel) (bus : Bus) : d.IrqCourse (d.sampleWork c bus).1 :=
  have hclock : d.IrqCourse { d with timer := (d.timer.advance c c.cps).1 } :=
    ⟨DmcChannel.withTimer_still d (Timer.advance_still _ _ _), fun _ => Nat.le_refl _, .inl rfl⟩
  DmcChannel.onTimer_keeps (fun e _ => d.IrqCourse e) (fun e bus h => h.trans (tick e bus)) _ _ bus hclock

theorem sampleStep {s t : State} (h : sampleStep s = .ok t) : s.apu.dmc.IrqCourse t.apu.dmc := by
  obtain ⟨_, _, _, work⟩ := sampleStep_work h
  obtain ⟨hdmc, -⟩ := Prod.mk.inj work.dmc
  exact hdmc ▸ sampleWork s.cfg s.apu.dmc s.bus

theorem execAdv {n : Nat} {s t : State} (h : execAdv n s = .next t) : s.apu.dmc.IrqCourse t.apu.dmc :=
  sampleSteps_induction (s := s.setSampleClock (s.sampleTicks n).1) (fun a b => a.apu.dmc.IrqCourse b.apu.dmc)
    (fun _ => refl _) (fun _ _ _ => trans) (fun _ _ => sampleStep) (execAdv_cases h)

end DmcChannel.IrqCourse

/-! ### Every operation -/

/-- Settles O49: no other operation raises the line, and `ADVANCE` raises it at the end of a sample alone. -/
theorem irqIsSetOnlyByTheEndOfASample : Obligations.IrqIsSetOnlyByTheEndOfASample := by
  intro i s t h hlow hhigh
  by_cases hi : ∃ n, i = .adv n
  · obtain ⟨n, rfl⟩ := hi
    rcases (DmcChannel.IrqCourse.execAdv h).irq with hirq | ⟨-, ends⟩
    · exact absurd (hirq.trans hlow) (ne_false_of_eq_true hhigh)
    · exact ⟨⟨n, rfl⟩, ends.loop, ends.irqEnabled, ends.before, ends.after⟩
  · have hline := exec_irqLine (not_exists.mp hi) h
    rw [hlow, Bool.false_and] at hline
    exact absurd hline (ne_false_of_eq_true hhigh)

/-- Settles O50: `ADVANCE` keeps a high line, and of the other operations the acknowledges alone do not. -/
theorem irqIsClearedByExactlyTwoWrites : Obligations.IrqIsClearedByExactlyTwoWrites := by
  intro i s t h hhigh
  rw [← acknowledges_iff]
  by_cases hi : ∃ n, i = .adv n
  · obtain ⟨n, rfl⟩ := hi
    have hline : t.irqLine = true := by
      rcases (DmcChannel.IrqCourse.execAdv h).irq with hirq | ⟨hirq, -⟩
      · exact hirq.trans hhigh
      · exact hirq
    exact iff_of_false (ne_false_of_eq_true hline) Bool.false_ne_true
  · rw [exec_irqLine (not_exists.mp hi) h, hhigh, Bool.true_and, Bool.not_eq_false']

end Sys2Proof.Machine
end

section
/-! PROOFS. The ranges of the mixer's groups and of their sum (rules R291 to R293): their full scale stays below each bound. -/

namespace Sys2Proof

/-- A datum from +0.0 up to one below a bound. -/
theorem F64.Between.range_of_lt {x hi : F64} {r : Q} (h : F64.Between (F64.zero false) x hi)
    (hr : hi.toRat < r) : x.isFinite = true ∧ 0 ≤ x.toRat ∧ x.toRat < r :=
  ⟨h.finite, h.nonneg.trans h.lower, h.upper.trans_lt hr⟩

namespace Machine

theorem pulseOut_fullScale_lt : (pulseOut 15 15).toRat < 2585 / 10000 := by decide +kernel

theorem tndOut_fullScale_lt : (tndOut 15 15 127).toRat < 7416 / 10000 := by decide +kernel

theorem mix_fullScale_lt : (mix 15 15 15 15 127).toRat < 1 := by decide +kernel

/-- Both groups of silence are +0.0, and so is their sum. -/
theorem mix_silence : mix 0 0 0 0 0 = ⟨0x0000000000000000#64⟩ := by decide +kernel

/-- Settles O52: every rounding is monotone, so full scale bounds each group and the mix from above, and +0.0 from below. -/
theorem mixerRanges : Obligations.MixerRanges := by
  intro sq1 sq2 tri noise dmc h₁ h₂ ht hn hd
  exact ⟨(pulseOut_between h₁ h₂).range_of_lt pulseOut_fullScale_lt,
    (tndOut_between ht hn hd).range_of_lt tndOut_fullScale_lt,
    (mix_between h₁ h₂ ht hn hd).range_of_lt mix_fullScale_lt, mix_silence⟩

end Machine

end Sys2Proof
end
